-- ==== Sys2Proof/Word.lean ====
section
/-!
DEFINITION. The word types of the core: a 32-bit word on the ports and in the register space, and a byte of a
serialised packet (`spec/30_encoding.md` rules R100 to R102, `spec/20_memory.md` rule R83).
-/
namespace Sys2Proof

/-- One word of the ports and of the register space: 32 bits (rules R80, R101). -/
abbrev Word := BitVec 32

/-- One byte of a packet laid out by a tool (rule R83), and the width of the fields `OPC` and `A` (rule R102). -/
abbrev Byte := BitVec 8

end Sys2Proof
end

