-- ==== Sys2Proof/Config.lean ====
section
/-!
DEFINITION. What an implementation of the core fixes: the parameters of `spec/00_scope.md` rules R7 and R8, and the one
value the spec leaves free (the contents of a ring slot that nothing has written, rules R24 and R252).
-/
namespace Sys2Proof

/-- `CDC_MODE` of rule R7: whether the producer side of the ring buffer shares the clock domain of the rest. -/
inductive CdcMode where
  /-- `SAME_DOMAIN`: every view follows its index inside the step that moves the index (rule R146). -/
  | sameDomain
  /-- `TWO_DOMAIN`: a view changes only at a delivery event (rule R146). -/
  | twoDomain
deriving DecidableEq, Repr

/-- The parameters of rule R7 that an instance of the core fixes. They are arguments of the model (rule R20): the
machine carries them unchanged, and a claim is stated for every legal choice of them. -/
structure Params where
  /-- `NDEPTH`, the number of sleep depths. -/
  ndepth : Nat
  /-- `HC_W`, the width of one hold counter. -/
  hcW : Nat
  /-- `RB_SIZE`, written `S`: the allocated slots of the ring buffer. -/
  rbSize : Nat
  /-- `SAMPLE_W`, the width of one sample. -/
  sampleW : Nat
  /-- `TIMER_W`, the width of the timer counter and of the two compare registers. -/
  timerW : Nat
  /-- `PRESC_MAX`, the largest prescale shift. -/
  prescMax : Nat
  /-- `CDC_MODE`. -/
  cdc : CdcMode
deriving DecidableEq, Repr

/-- The legal ranges of rule R7. -/
abbrev Params.Legal (p : Params) : Prop :=
  (2 ≤ p.ndepth ∧ p.ndepth ≤ 16) ∧ (1 ≤ p.hcW ∧ p.hcW ≤ 32) ∧ (2 ≤ p.rbSize ∧ p.rbSize ≤ 65536) ∧
    (1 ≤ p.sampleW ∧ p.sampleW ≤ 32) ∧ (2 ≤ p.timerW ∧ p.timerW ≤ 32) ∧ p.prescMax ≤ 15

/-- The parameter values that `spec/95_test_vectors.md` takes "unless a vector says otherwise". Only `NDEPTH = 5` is a
default of rule R7; the others are examples there. DESIGN CHOICE, log entry 2. -/
def Params.vectors : Params where
  ndepth := 5
  hcW := 8
  rbSize := 4
  sampleW := 8
  timerW := 32
  prescMax := 15
  cdc := .sameDomain

/-- `HCMAX = 2^HC_W - 1` (rule R8). -/
def Params.hcMax (p : Params) : Nat := 2 ^ p.hcW - 1

/-- `TMAX = 2^TIMER_W - 1` (rule R8). -/
def Params.tMax (p : Params) : Nat := 2 ^ p.timerW - 1

/-- `IDX_W = ceil(log2(S))`, the width of a ring index (rule R8). -/
def Params.idxW (p : Params) : Nat := Nat.clog 2 p.rbSize

/-- `DEEPEST = NDEPTH - 1` (rule R8). -/
def Params.deepest (p : Params) : Nat := p.ndepth - 1

/-- `EVTMAX = 2^EVT_W - 1 = 65535` with the fixed `EVT_W = 16` (rules R7, R8). -/
def evtMax : Nat := 65535

/-- What ring slot `slot` holds after power-up number `epoch` until something is pushed into it: a FREE VALUE. The spec
leaves it unspecified ("a model must not rely on it being zero or being preserved across reset", rule R252), so nothing
is said about it here. Log entry 4. -/
opaque Config.unwrittenSample (epoch slot : Nat) : Word

end Sys2Proof
end

