-- ==== Sys2Proof/Syntax.lean ====
section
/-!
DEFINITION. The commands of the core as a type, one constructor per row of `spec/opcode_table.json`
(`spec/30_encoding.md` rule R105), with the ports they arrive at, the events, the names of the registers
(`spec/10_state.md` rule R40) and the packet a command is carried in.
-/
namespace Sys2Proof

/-- The four command ports (rule R100). -/
inductive Port where
  /-- `BG`: the background agent. -/
  | bg
  /-- `ISR`: interrupt context. -/
  | isr
  /-- `PROD`: the ring buffer's single producer. -/
  | prod
  /-- `CONS`: the ring buffer's single consumer while the drain unit is disabled. -/
  | cons
deriving DecidableEq, Repr

/-- The nine commands (rule R105). A depth operand is the raw field `A`, unsigned (rule R104); a register operand is the
raw register number (rule R104). A command that ignores `wdata` does not carry it (rule R101). -/
inductive Instr where
  /-- `ACQ d`: acquire one hold at depth `d`. -/
  | acq (d : Byte)
  /-- `REL d`: release one hold at depth `d`. -/
  | rel (d : Byte)
  /-- `REST`: choose the rest depth and enter it. -/
  | rest
  /-- `PUSH v`: try to append one sample, taken from `wdata`. -/
  | push (w : Word)
  /-- `POP`: try to remove the oldest sample. -/
  | pop
  /-- `TCALC`: derive the compare values and the prescale shift. -/
  | tcalc
  /-- `TSTART`: start the timer. -/
  | tstart
  /-- `RDREG r`: read one register. -/
  | rdreg (r : Byte)
  /-- `WRREG r, w`: write one register. -/
  | wrreg (r : Byte) (w : Word)
deriving DecidableEq, Repr

/-- One command packet: the command word and the data word, presented together (rule R101). -/
structure Packet where
  cmd : Word
  wdata : Word
deriving DecidableEq, Repr

/-- Why a packet is no command at all (rule R108): each is answered `ILLEGAL`. -/
inductive DecodeError where
  /-- `OPC` is not one of the nine values of rule R105 (rule R110). -/
  | reservedOpcode (opc : Byte)
  /-- The reserved field `Z`, bits 23:8, is not 0 (rule R102). -/
  | reservedFieldSet (z : BitVec 16)
  /-- The format is `N` or `V` and `A` is not 0 (rule R103). -/
  | argumentNotZero (a : Byte)
deriving DecidableEq, Repr

/-- The eight events (rule R100): five inputs and three synchroniser deliveries. -/
inductive Event where
  /-- `osc_tick`: one tick of the oscillator that drives the timer. -/
  | oscTick
  /-- `txbl`: the serial transmitter's "transmit register empty". -/
  | txbl
  /-- `txc`: the serial transmitter's "transmit complete". -/
  | txc
  /-- `wake_ext`: the platform took an interrupt that is not one of the core's own. -/
  | wakeExt
  /-- `syncw`: the write index is delivered to the consumer side. -/
  | syncw
  /-- `syncr`: the read index is delivered to the producer side. -/
  | syncr
  /-- `syncd`: the drop count is delivered to the core domain. -/
  | syncd
  /-- `reset`: power-on reset. -/
  | reset
deriving DecidableEq, Repr

/-- What an agent presents to the core for one step (rule R11): a command at a port, or an event. -/
inductive Input where
  | command (port : Port) (packet : Packet)
  | event (e : Event)
deriving DecidableEq, Repr

/-- The registers of rule R40, by name. -/
inductive Reg where
  | arbNext | arbCur | arbDblrel
  /-- `ARB_CNT[d]`, number `0x10 + d`, for `d < NDEPTH`. -/
  | arbCnt (d : Nat)
  | rbRd | rbWrs | rbDrop | rbSize
  | tctrl | tfreq | tratio | tdur | tfloor | tcomp0 | tcomp1 | tpresc | tcnt | tpidxA | tpidxB
  | tmodn | trelmask | thdepth | tslot
  | drctrl | drdepth | drtxd
  | intFlag | intFlagClear | intEnable
  | fault | faultInfo
deriving DecidableEq, Repr

/-- Access kinds of rule R40. -/
inductive Access where
  | ro | rw | wo
deriving DecidableEq, Repr

/-- The lock column of rule R40: the condition under which a write is refused. -/
inductive Lock where
  /-- no lock -/
  | none
  /-- refused while `RUN = 1` -/
  | run
  /-- refused while `DR_ACTIVE = 1` -/
  | act
deriving DecidableEq, Repr

/-- The status codes of rule R106. -/
inductive Status where
  | ok | full | empty | illegal | faulted
deriving DecidableEq, Repr

/-- The response that ends a command step: the port that gets it, the status and `rdata` (rule R106). -/
structure Response where
  port : Port
  status : Status
  rdata : Word
deriving DecidableEq, Repr

/-- One record of the output trace `OUT` (rule R12). -/
inductive Emit where
  /-- `emit(act_start)`: the "start activity" hook. -/
  | actStart
  /-- `emit(act_stop, slot, pol)`: the "stop activity" hook. -/
  | actStop (slot : BitVec 5) (pol : Bool)
  /-- `emit(tx, v)`: the write to the transmit register. -/
  | tx (v : Word)
deriving DecidableEq, Repr

end Sys2Proof
end

