-- ==== Sys2Proof/Machine/State.lean ====
section
/-!
DEFINITION. The state of the core as plain data: every element of `spec/10_state.md` rules R21 to R35 and the output
trace `OUT` of `spec/00_scope.md` rule R12, the model's own fields that stand for the arguments of the step relation
(rule R20), and the state after reset (`spec/70_reset_and_hazards.md` rule R251).
-/
namespace Sys2Proof.Machine

/-- The two states of the timer (rule R160). -/
inductive TimerState where
  /-- between phase B and the next phase A; code 0 -/
  | idle
  /-- between phase A and phase B; code 1 -/
  | exciting
deriving DecidableEq, Repr

/-- The sample store `BUF` (rule R24): the written slots as pairs of a slot number and the sample in it, slot numbers
strictly rising. A slot that is not listed holds no value yet. -/
abbrev Memory := List (Nat × Word)

/-- The canonical form of the store: slot numbers strictly rising. An unlisted slot reads as no value, so no entry
equals what an unlisted slot reads as. -/
abbrev Memory.wf (m : Memory) : Prop := m.Pairwise (fun a b => a.1 < b.1)

/-- The state of the core. -/
structure State where
  /-- The parameters of rule R7: an argument of the step relation (rule R20), never changed. -/
  cfg : Params
  /-- `HC[0 .. NDEPTH-1]`, the hold counters (rule R21). -/
  hc : List Nat
  /-- `REST_CUR` (rule R22). -/
  restCur : BitVec 4
  /-- `DBLREL_CNT` (rule R23). -/
  dblRelCnt : BitVec 16
  /-- `BUF[0 .. S-1]` (rule R24). -/
  buf : Memory
  /-- `WR` (rule R25). -/
  wr : Nat
  /-- `RD` (rule R25). -/
  rd : Nat
  /-- `WR_SEEN` (rule R26). -/
  wrSeen : Nat
  /-- `RD_SEEN` (rule R26). -/
  rdSeen : Nat
  /-- `DROP_CNT` (rule R27). -/
  dropCnt : BitVec 16
  /-- `DROP_SEEN` (rule R27). -/
  dropSeen : BitVec 16
  /-- `TFREQ` (rule R29). -/
  tfreq : Word
  /-- `TRATIO` (rule R29). -/
  tratio : Word
  /-- `TDUR` (rule R29). -/
  tdur : Word
  /-- `TFLOOR` (rule R29). -/
  tfloor : Word
  /-- `TCOMP0`, a number of `TIMER_W` bits (rule R29). -/
  tcomp0 : Nat
  /-- `TCOMP1`, a number of `TIMER_W` bits (rule R29). -/
  tcomp1 : Nat
  /-- `TPRESC` (rule R29). -/
  tpresc : BitVec 4
  /-- `TMODN` (rule R29). -/
  tmodn : BitVec 6
  /-- `TRELMASK` (rule R29). -/
  trelmask : Word
  /-- `THDEPTH` (rule R29). -/
  thdepth : BitVec 4
  /-- `POLEN` (rule R29). -/
  polen : Bool
  /-- `RUN` (rule R30). -/
  run : Bool
  /-- `TSTATE` (rule R30). -/
  tstate : TimerState
  /-- `TCNT`, a number of `TIMER_W` bits (rule R30). -/
  tcnt : Nat
  /-- `PDIV`, a number of `PRESC_MAX` bits (rule R30). -/
  pdiv : Nat
  /-- `PIDX_A` (rule R31). -/
  pidxA : Word
  /-- `PIDX_B` (rule R31). -/
  pidxB : Word
  /-- `POL` (rule R32). -/
  pol : Bool
  /-- `TSLOT` (rule R32). -/
  tslot : BitVec 5
  /-- `DR_EN` (rule R33). -/
  drEn : Bool
  /-- `DR_ACTIVE` (rule R33). -/
  drActive : Bool
  /-- `DR_WAIT` (rule R33). -/
  drWait : Bool
  /-- `DRDEPTH` (rule R33). -/
  drDepth : BitVec 4
  /-- `TXD`, a sample (rule R33). -/
  txd : Word
  /-- `IF[3:0]` (rule R34). -/
  iflags : BitVec 4
  /-- `IEN[3:0]` (rule R34). -/
  ien : BitVec 4
  /-- `FAULT[1:0]` (rule R35). -/
  fault : BitVec 2
  /-- `FAULTINFO` (rule R35). -/
  faultInfo : Word
  /-- `OUT`, the output trace, oldest record first (rule R12). -/
  out : List Emit
  /-- The model's own (log entry 1): what the agents present to the core, in the order of the schedule (rule R11). -/
  inputs : List Input
  /-- The model's own (log entry 1): the port the latest accepted command arrived at, an argument of the step relation
  (rule R20). -/
  port : Port
  /-- The model's own (log entry 3): the response on the port's wires, given by the latest step if that step was a
  command (rule R106). -/
  resp : Option Response
  /-- The model's own (log entry 4): how many resets there have been, so that what an unwritten slot holds is free again
  after each (rule R252). -/
  powerUps : Nat
deriving DecidableEq, Repr

/-- Why the machine stops with a fault. The core's own fatal faults (rule R212) are no such stop: they set `FAULT` and the
machine goes on halted. -/
inductive Fault where
  /-- An access to a slot of the sample store at or above `S`, which rule R81 says does not exist. Raised by `PUSH`, `POP`
  and the event `txbl`; "no rule calls either primitive with `i >= S`", so no state that meets the ring buffer's
  invariant raises it. Safe. -/
  | noSuchSlot (slot : Nat)
deriving DecidableEq, Repr

/-- Why an instruction is refused. -/
inductive Refusal where
  /-- An instruction of the opcode table that the model gives no meaning. Raised by no arm: every row has its meaning.
  Safe. -/
  | notModelled (mnemonic : String)
deriving DecidableEq, Repr

/-- The core with parameters `p` right after reset (rule R251). Nothing is listed in the store (rule R252). The model's own
fields: no input is presented, no response is on the wires, and `port` names `BG` (log entry 1). -/
def State.resetWith (p : Params) : State where
  cfg := p
  hc := List.replicate p.ndepth 0
  restCur := 0
  dblRelCnt := 0
  buf := []
  wr := 0
  rd := 0
  wrSeen := 0
  rdSeen := 0
  dropCnt := 0
  dropSeen := 0
  tfreq := 0
  tratio := 0x00010000
  tdur := 0
  tfloor := 0
  tcomp0 := 0
  tcomp1 := 0
  tpresc := 0
  tmodn := 3
  trelmask := 0xFFFFFFFF
  thdepth := 0
  polen := false
  run := false
  tstate := .idle
  tcnt := 0
  pdiv := 0
  pidxA := 0
  pidxB := 0
  pol := false
  tslot := 0
  drEn := false
  drActive := false
  drWait := false
  drDepth := 0
  txd := 0
  iflags := 0
  ien := 0
  fault := 0
  faultInfo := 0
  out := []
  inputs := []
  port := .bg
  resp := none
  powerUps := 0

/-- The state after reset, with the parameters of the spec's vectors (log entry 2). -/
def State.reset : State := State.resetWith Params.vectors

end Sys2Proof.Machine
end

