-- ==== Sys2Proof/Decode.lean ====
section
/-!
DEFINITION. The decoder, total on every packet and rejecting by name, and after it the encoder, both written from the
layout of `spec/30_encoding.md` rules R102 to R105; the byte order in which a tool lays a packet out
(`spec/20_memory.md` rule R83); the numbers of the registers (`spec/10_state.md` rules R40 and R72).
-/
namespace Sys2Proof

/-! ## The fields of the command word (rule R102) -/

/-- `OPC = cmd[31:24]`. -/
def opcField (cmd : Word) : Byte := cmd.extractLsb' 24 8

/-- `Z = cmd[23:8]`, reserved, 0 in every command. -/
def zField (cmd : Word) : BitVec 16 := cmd.extractLsb' 8 16

/-- `A = cmd[7:0]`. -/
def aField (cmd : Word) : Byte := cmd.extractLsb' 0 8

/-! ## The decoder -/

/-- Formats `N` and `V` (rule R103): the argument field must be 0. -/
def withoutArgument (a : Byte) (i : Instr) : Except DecodeError Instr :=
  if a = 0 then .ok i else .error (.argumentNotZero a)

/-- The command a packet holds, by the opcode map of rule R105, or why it holds none (rules R108, R110). Every one of
the `2^32` command words has an answer, and `wdata` reaches only `PUSH` and `WRREG` (rule R101). -/
def decode (p : Packet) : Except DecodeError Instr :=
  if zField p.cmd ≠ 0 then .error (.reservedFieldSet (zField p.cmd))
  else
    match (opcField p.cmd).toNat with
    | 0x01 => .ok (.acq (aField p.cmd))
    | 0x02 => .ok (.rel (aField p.cmd))
    | 0x03 => withoutArgument (aField p.cmd) .rest
    | 0x10 => withoutArgument (aField p.cmd) (.push p.wdata)
    | 0x11 => withoutArgument (aField p.cmd) .pop
    | 0x20 => withoutArgument (aField p.cmd) .tcalc
    | 0x21 => withoutArgument (aField p.cmd) .tstart
    | 0x30 => .ok (.rdreg (aField p.cmd))
    | 0x31 => .ok (.wrreg (aField p.cmd) p.wdata)
    | _ => .error (.reservedOpcode (opcField p.cmd))

/-! ## The encoder -/

/-- `OPC` of rule R105. -/
def opcodeOf : Instr → Byte
  | .acq _ => 0x01
  | .rel _ => 0x02
  | .rest => 0x03
  | .push _ => 0x10
  | .pop => 0x11
  | .tcalc => 0x20
  | .tstart => 0x21
  | .rdreg _ => 0x30
  | .wrreg _ _ => 0x31

/-- The field `A` of rule R103. -/
def argumentOf : Instr → Byte
  | .acq d => d
  | .rel d => d
  | .rest => 0
  | .push _ => 0
  | .pop => 0
  | .tcalc => 0
  | .tstart => 0
  | .rdreg r => r
  | .wrreg r _ => r

/-- The data word of a packet that carries the command; 0 where the command ignores it (rule R101). -/
def dataOf : Instr → Word
  | .acq _ => 0
  | .rel _ => 0
  | .rest => 0
  | .push w => w
  | .pop => 0
  | .tcalc => 0
  | .tstart => 0
  | .rdreg _ => 0
  | .wrreg _ w => w

/-- The packet of a command: `OPC` in bits 31:24, `Z = 0`, the argument in bits 7:0 (rule R102), and the data word. -/
def encode (i : Instr) : Packet where
  cmd := opcodeOf i ++ (0 : BitVec 16) ++ argumentOf i
  wdata := dataOf i

/-! ## Packets as bytes (rule R83): little-endian, the command word first -/

/-- The four bytes of a word, the byte of bits 7:0 first (rule R83). -/
def wordToBytes (w : Word) : List Byte :=
  [w.extractLsb' 0 8, w.extractLsb' 8 8, w.extractLsb' 16 8, w.extractLsb' 24 8]

/-- The word of four bytes, the first the least significant (rule R83). -/
def wordOfBytes (b0 b1 b2 b3 : Byte) : Word := b3 ++ b2 ++ b1 ++ b0

/-- A packet laid out as bytes: the command word, then the data word. -/
def packetToBytes (p : Packet) : List Byte := wordToBytes p.cmd ++ wordToBytes p.wdata

/-- The packet that eight bytes lay out; no other number of bytes is a packet (rule R111). -/
def packetOfBytes : List Byte → Option Packet
  | [b0, b1, b2, b3, b4, b5, b6, b7] => some ⟨wordOfBytes b0 b1 b2 b3, wordOfBytes b4 b5 b6 b7⟩
  | _ => none

/-- The command a packet of bytes holds, if it holds one. -/
def decodeBytes (bs : List Byte) : Option Instr :=
  match packetOfBytes bs with
  | none => none
  | some p =>
    match decode p with
    | .ok i => some i
    | .error _ => none

/-- The packet whose bits, numbered from bit 0 of the command word on, are the low `nbits` bits of `w`; every bit above
is 0. -/
def packetOfTableWord (nbits w : Nat) : Packet where
  cmd := BitVec.ofNat 32 (w % 2 ^ nbits)
  wdata := BitVec.ofNat 32 (w % 2 ^ nbits / 2 ^ 32)

/-- The instruction the decoder reads from an opcode-table word: its packet is laid out as the eight bytes of rule R83
and those bytes are decoded. -/
def decodeTableWord (nbits w : Nat) : Option Instr :=
  decodeBytes (packetToBytes (packetOfTableWord nbits w))

/-! ## Register numbers (rules R40, R72) -/

/-- The register with number `n` in a core with `ndepth` depths, or none where the number is reserved (rule R72). -/
def regOf (ndepth : Nat) (n : Byte) : Option Reg :=
  match n.toNat with
  | 0x00 => some .arbNext
  | 0x01 => some .arbCur
  | 0x02 => some .arbDblrel
  | 0x20 => some .rbRd
  | 0x21 => some .rbWrs
  | 0x22 => some .rbDrop
  | 0x23 => some .rbSize
  | 0x30 => some .tctrl
  | 0x31 => some .tfreq
  | 0x32 => some .tratio
  | 0x33 => some .tdur
  | 0x34 => some .tfloor
  | 0x35 => some .tcomp0
  | 0x36 => some .tcomp1
  | 0x37 => some .tpresc
  | 0x38 => some .tcnt
  | 0x39 => some .tpidxA
  | 0x3A => some .tpidxB
  | 0x3B => some .tmodn
  | 0x3C => some .trelmask
  | 0x3D => some .thdepth
  | 0x3E => some .tslot
  | 0x40 => some .drctrl
  | 0x41 => some .drdepth
  | 0x42 => some .drtxd
  | 0x50 => some .intFlag
  | 0x51 => some .intFlagClear
  | 0x52 => some .intEnable
  | 0x58 => some .fault
  | 0x59 => some .faultInfo
  | k => if 0x10 ≤ k ∧ k < 0x10 + ndepth ∧ k ≤ 0x1F then some (.arbCnt (k - 0x10)) else none

/-- The number of a register (rule R40). -/
def regNumber : Reg → Byte
  | .arbNext => 0x00
  | .arbCur => 0x01
  | .arbDblrel => 0x02
  | .arbCnt d => BitVec.ofNat 8 (0x10 + d)
  | .rbRd => 0x20
  | .rbWrs => 0x21
  | .rbDrop => 0x22
  | .rbSize => 0x23
  | .tctrl => 0x30
  | .tfreq => 0x31
  | .tratio => 0x32
  | .tdur => 0x33
  | .tfloor => 0x34
  | .tcomp0 => 0x35
  | .tcomp1 => 0x36
  | .tpresc => 0x37
  | .tcnt => 0x38
  | .tpidxA => 0x39
  | .tpidxB => 0x3A
  | .tmodn => 0x3B
  | .trelmask => 0x3C
  | .thdepth => 0x3D
  | .tslot => 0x3E
  | .drctrl => 0x40
  | .drdepth => 0x41
  | .drtxd => 0x42
  | .intFlag => 0x50
  | .intFlagClear => 0x51
  | .intEnable => 0x52
  | .fault => 0x58
  | .faultInfo => 0x59

/-- The 4-bit code of a status on the `status` wires (rule R106). -/
def statusCode : Status → BitVec 4
  | .ok => 0
  | .full => 1
  | .empty => 2
  | .illegal => 3
  | .faulted => 4

end Sys2Proof
end

