-- ==== Sys2Proof/WellFormed.lean ====
section
/-!
DEFINITION. The static checks on the operands of a decoded command (`spec/30_encoding.md` rule R108): a depth is below
`NDEPTH`, a register number is not reserved. A command that fails a check is answered `ILLEGAL`.
-/
namespace Sys2Proof

/-- The operand checks of rule R108: format `D` needs `A < NDEPTH`, formats `R` and `RW` a register number that rule
R72 does not reserve. The other formats have no operand to check here (`A = 0` is the decoder's check). -/
def Instr.wellFormed (p : Params) : Instr → Bool
  | .acq d => decide (d.toNat < p.ndepth)
  | .rel d => decide (d.toNat < p.ndepth)
  | .rest => true
  | .push _ => true
  | .pop => true
  | .tcalc => true
  | .tstart => true
  | .rdreg r => (regOf p.ndepth r).isSome
  | .wrreg r _ => (regOf p.ndepth r).isSome

end Sys2Proof
end

