-- ==== Sys2Proof/Machine/Operands.lean ====
section
/-!
DEFINITION. Operand forms and bit-field helpers: the sample operand and the depth operand of `spec/30_encoding.md` rule
R104, the fields of a register word (`spec/10_state.md` rule R40), and the port table of rule R107.
-/
namespace Sys2Proof.Machine

/-- `v[SAMPLE_W-1:0]` (rule R104): the bits above `SAMPLE_W` are discarded without check. -/
def sampleOf (p : Params) (w : Word) : Word := BitVec.ofNat 32 (w.toNat % 2 ^ p.sampleW)

/-- `zext_32` of a natural number that fits 32 bits (rule R10). -/
def wordOfNat (n : Nat) : Word := BitVec.ofNat 32 n

/-- A one-bit field at bit `i` of a register word. -/
def bitField (i : Nat) (b : Bool) : Word := if b then 1 <<< i else 0

/-- The code of a timer state: 0 Idle, 1 Exciting (rule R30). -/
def timerStateBit : TimerState → Bool
  | .idle => false
  | .exciting => true

/-- A depth number as a 4-bit register field (rules R22, R29, R33). -/
def depthField (d : Nat) : BitVec 4 := BitVec.ofNat 4 d

/-- `Next(i) = (i + 1) mod S` (rule R140). -/
def nextSlot (p : Params) (i : Nat) : Nat := (i + 1) % p.rbSize

/-- Which port may issue which command (rule R107). The condition `DR_EN = 0` of `POP` is dynamic legality and is checked
by the command (rule R109 (4)). -/
def portAllows (port : Port) (i : Instr) : Bool :=
  match i, port with
  | .acq _, .bg => true
  | .acq _, .isr => true
  | .acq _, .prod => false
  | .acq _, .cons => false
  | .rel _, .bg => true
  | .rel _, .isr => true
  | .rel _, .prod => false
  | .rel _, .cons => false
  | .rest, .bg => true
  | .rest, .isr => false
  | .rest, .prod => false
  | .rest, .cons => false
  | .push _, .bg => false
  | .push _, .isr => false
  | .push _, .prod => true
  | .push _, .cons => false
  | .pop, .bg => false
  | .pop, .isr => false
  | .pop, .prod => false
  | .pop, .cons => true
  | .tcalc, .bg => true
  | .tcalc, .isr => true
  | .tcalc, .prod => false
  | .tcalc, .cons => false
  | .tstart, .bg => true
  | .tstart, .isr => true
  | .tstart, .prod => false
  | .tstart, .cons => false
  | .rdreg _, .bg => true
  | .rdreg _, .isr => true
  | .rdreg _, .prod => false
  | .rdreg _, .cons => false
  | .wrreg _ _, .bg => true
  | .wrreg _ _, .isr => true
  | .wrreg _ _, .prod => false
  | .wrreg _ _, .cons => false

/-- Static legality of a decoded command at a port (rule R108): its operands are legal and the port may issue it. -/
def staticLegal (p : Params) (port : Port) (i : Instr) : Bool :=
  i.wellFormed p && portAllows port i

/-- The two commands that a halted core still serves (rules R109 (3) and R214). -/
def servedWhenHalted : Instr → Bool
  | .acq _ => false
  | .rel _ => false
  | .rest => false
  | .push _ => true
  | .pop => false
  | .tcalc => false
  | .tstart => false
  | .rdreg _ => true
  | .wrreg _ _ => false

end Sys2Proof.Machine
end

