-- ==== Sys2Proof/Machine/Flags.lean ====
section
/-!
DEFINITION. The interrupt flags, the `irq` line and the halt (`spec/10_state.md` rules R34, R35), setting and clearing a
flag (`spec/60_exceptions.md` rules R218, R219), and `Settle()`, the wake at the end of every step (rule R221).
-/
namespace Sys2Proof.Machine

/-- `PHA`, bit 0 of `IF` (rule R217). -/
def flagPHA : BitVec 4 := 0b0001

/-- `PHB`, bit 1 of `IF` (rule R217). -/
def flagPHB : BitVec 4 := 0b0010

/-- `DROP`, bit 2 of `IF` (rule R217). -/
def flagDROP : BitVec 4 := 0b0100

/-- `DBLREL`, bit 3 of `IF` (rule R217). -/
def flagDBLREL : BitVec 4 := 0b1000

/-- `SetIF(b)`: unconditional, whether or not the flag is enabled or already set (rule R218). -/
def setFlag (b : BitVec 4) (s : State) : State := { s with iflags := s.iflags ||| b }

/-- `IF <- IF & ~m` (rule R68), the only clearing of a flag besides reset (rule R219). -/
def clearFlags (m : BitVec 4) (s : State) : State := { s with iflags := s.iflags &&& ~~~m }

/-- `irq = ((IF & IEN) != 0)` (rule R36). -/
def State.irq (s : State) : Bool := s.iflags &&& s.ien != 0

/-- `HALT = (FAULT != 0)` (rule R35). -/
def State.halted (s : State) : Bool := s.fault != 0

/-- `Settle()` (rule R221): a pending enabled flag or a fatal fault ends any rest state. -/
def settle (s : State) : State := { s with restCur := if s.irq || s.halted then 0 else s.restCur }

end Sys2Proof.Machine
end

