-- ==== Sys2Proof/Machine/Ops.lean ====
section
/-!
DEFINITION. The shared operations: the sample store (`spec/20_memory.md` rule R81), the hold counters
(`spec/40_arbiter.md` rules R130 to R132), raising a fatal fault (`spec/60_exceptions.md` rule R213), the frame of
every command (`spec/30_encoding.md` rule R109), and what an agent presents to the core (`spec/00_scope.md` rule R11).
-/
namespace Sys2Proof.Machine

/-- The outcome of a step of this machine. -/
abbrev Result := Host.Outcome State Fault Refusal

/-- The outcome with `f` applied to its next state, if it has one. -/
def onNext (f : State → State) : Result → Result
  | .next s => .next (f s)
  | .fault r => .fault r
  | .refused r => .refused r

/-! ## The sample store -/

/-- The sample a slot holds, or none if nothing has been pushed into it since reset (rule R24). -/
def Memory.read? : Memory → Nat → Option Word
  | [], _ => none
  | (j, w) :: m, i => if j = i then some w else Memory.read? m i

/-- `BUF[i] <- v`, keeping the slot numbers strictly rising. -/
def Memory.write : Memory → Nat → Word → Memory
  | [], i, v => [(i, v)]
  | (j, w) :: m, i, v =>
    if i < j then (i, v) :: (j, w) :: m
    else if i = j then (i, v) :: m
    else (j, w) :: Memory.write m i v

/-- `MemRead(i, 1)` (rule R81): the sample in slot `i`. A slot that holds no value yet gives the free value of log entry 4,
a sample of `SAMPLE_W` bits. -/
def memRead (i : Nat) (s : State) : Word :=
  match s.buf.read? i with
  | some v => v
  | none => sampleOf s.cfg (Config.unwrittenSample s.powerUps i)

/-- `MemWrite(i, 1, v)` (rule R81). -/
def memWrite (i : Nat) (v : Word) (s : State) : State := { s with buf := s.buf.write i v }

/-- An access to slot `i`: it goes on as `k` where the slot exists, and stops where rule R81 says there is none. -/
def atSlot (i : Nat) (s : State) (k : Result) : Result :=
  if i < s.cfg.rbSize then k else .fault (.noSuchSlot i)

/-! ## Fatal faults: what stands in the place of taking an exception (rules R212, R213) -/

/-- The fatal fault codes of rule R212. -/
inductive FatalCode where
  | holdOvf | cfgZeroPeriod | cfgNoPrescaler | cfgBadCompare
deriving DecidableEq, Repr

/-- `FAULTINFO.CODE` (rules R71, R212). -/
def fatalCodeByte : FatalCode → BitVec 8
  | .holdOvf => 1
  | .cfgZeroPeriod => 2
  | .cfgNoPrescaler => 3
  | .cfgBadCompare => 4

/-- The bit of `FAULT` a code sets (rule R212): `HOLD_OVF` bit 0, the others bit 1, `CFG_ERR`. -/
def fatalBit : FatalCode → BitVec 2
  | .holdOvf => 0b01
  | .cfgZeroPeriod => 0b10
  | .cfgNoPrescaler => 0b10
  | .cfgBadCompare => 0b10

/-- `INFO` of a fault raised by `TCALC` (rule R71). -/
def infoTCALC : Nat := 1

/-- `INFO` of a fault raised by `TSTART` (rule R71). -/
def infoTSTART : Nat := 2

/-- The word `FAULTINFO <- {info[23:0], code[7:0]}` (rule R213). -/
def faultWord (code : FatalCode) (info : Nat) : Word := BitVec.ofNat 24 info ++ fatalCodeByte code

/-- `raise Fatal(code, info)` (rule R213): only the first fault is recorded in `FAULTINFO`; nothing else is saved, and there
is no handler address. The way back from it is reset alone (rule R214). -/
def raiseFatal (code : FatalCode) (info : Nat) (s : State) : State :=
  { s with
    fault := s.fault ||| fatalBit code
    faultInfo := if s.fault = 0 then faultWord code info else s.faultInfo }

/-! ## The hold counters -/

/-- `HC[d]`. -/
def State.holds (s : State) (d : Nat) : Nat := s.hc.getD d 0

/-- `Choose()` (rule R130): the shallowest depth with a hold, or the deepest depth if there is none. -/
def choose (s : State) : Nat :=
  ((List.range s.cfg.ndepth).find? (fun d => s.holds d != 0)).getD s.cfg.deepest

/-- `Acquire(d)` (rule R131): at `HCMAX` the counter saturates and the fatal fault is raised. -/
def acquire (d : Nat) (s : State) : State :=
  if s.holds d = s.cfg.hcMax then raiseFatal .holdOvf d s
  else { s with hc := s.hc.set d (s.holds d + 1) }

/-- An event counter one up, saturating at `EVTMAX` (rules R23, R27). -/
def countEvent (c : BitVec 16) : BitVec 16 := if c.toNat < evtMax then c + 1 else c

/-- `Release(d)` (rule R132): a double release changes no counter of holds; it is counted and flagged. -/
def release (d : Nat) (s : State) : State :=
  if s.holds d > 0 then { s with hc := s.hc.set d (s.holds d - 1) }
  else setFlag flagDBLREL { s with dblRelCnt := countEvent s.dblRelCnt }

/-! ## The frame of a command -/

/-- `respond(status, data)` (rule R10): the response goes to the port the command arrived at. -/
def respond (st : Status) (data : Word) (s : State) : State :=
  { s with resp := some ⟨s.port, st, data⟩ }

/-- A command at the `ISR` port is a wake (rule R109 (1)). -/
def wakeAtIsr (s : State) : State := { s with restCur := if s.port = .isr then 0 else s.restCur }

/-- The answer to a packet that holds no command (rule R108): `ILLEGAL`, with the wake of rule R109 (1) and `Settle()`. -/
def refuseUndecoded (s : State) : State := settle (respond .illegal 0 (wakeAtIsr s))

/-- The order of checks of rule R109 around the rule `body` of command `i`: (1) the wake at the `ISR` port; (2) static
legality; (3) the halt; (4) and (5) the command's own dynamic legality and rule; (6) `Settle()`. -/
def command (i : Instr) (body : State → Result) (s : State) : Result :=
  if staticLegal s.cfg s.port i = false then .next (settle (respond .illegal 0 (wakeAtIsr s)))
  else if s.halted = true ∧ servedWhenHalted i = false then
    .next (settle (respond .faulted 0 (wakeAtIsr s)))
  else onNext settle (body (wakeAtIsr s))

/-- The end of a command whose rule may have raised a fatal fault: `FAULTED` if it did, else `OK` (rule R106). It is used
only where the core was not halted before. -/
def respondOkOrFaulted (s : State) : State :=
  if s.halted then respond .faulted 0 s else respond .ok 0 s

/-! ## What the agents present -/

/-- Whether an input can be taken while the processor rests: everything but a command at the `BG` port (rules R109,
R222). -/
def acceptedWhileResting : Input → Bool
  | .command .bg _ => false
  | .command .isr _ => true
  | .command .prod _ => true
  | .command .cons _ => true
  | .event _ => true

/-- The first input of the schedule that the core accepts, and what is left of the schedule: while the processor rests, a
command at the `BG` port is held where it stands until a wake (rule R222). -/
def firstAccepted (resting : Bool) : List Input → Option (Input × List Input)
  | [] => none
  | x :: xs =>
    if resting = true ∧ acceptedWhileResting x = false then
      (firstAccepted resting xs).map (fun r => (r.1, x :: r.2))
    else some (x, xs)

/-- Whether the processor rests: `REST_CUR != 0` (rule R22). -/
def State.resting (s : State) : Bool := s.restCur != 0

/-- The step that a port begins by accepting a command: the port is recorded for the checks and the response, and no
response is on the wires yet. -/
def acceptAt (p : Port) (s : State) : State := { s with port := p, resp := none }

/-- The port at which a word of the opcode table is presented to run it alone: the one port of `PUSH` and of `POP`, and
`BG` for every other command (rule R107). -/
def portFor (p : Packet) : Port :=
  match decode p with
  | .ok (.push _) => .prod
  | .ok .pop => .cons
  | .ok (.acq _) => .bg
  | .ok (.rel _) => .bg
  | .ok .rest => .bg
  | .ok .tcalc => .bg
  | .ok .tstart => .bg
  | .ok (.rdreg _) => .bg
  | .ok (.wrreg _ _) => .bg
  | .error _ => .bg

/-- The state with a packet presented as the very next input the core takes. A command at the `BG` port is taken only while
the processor does not rest (rule R222), so for that port `REST_CUR` is 0. -/
def presentNext (p : Packet) (s : State) : State :=
  { s with
    inputs := .command (portFor p) p :: s.inputs
    restCur := if portFor p = .bg then 0 else s.restCur }

end Sys2Proof.Machine
end

