-- ==== Sys2Proof/Machine/Arbiter.lean ====
section
/-!
DEFINITION. The commands of the sleep arbiter, `ACQ`, `REL` and `REST` (`spec/40_arbiter.md` rules R133 to R135).
-/
namespace Sys2Proof.Machine

/-- `ACQ d` (rule R133). -/
def execAcq (d : Byte) (s : State) : Result :=
  command (.acq d) (fun t => .next (respondOkOrFaulted (acquire d.toNat t))) s

/-- `REL d` (rule R134): a double release answers `OK` exactly as a normal release does. -/
def execRel (d : Byte) (s : State) : Result :=
  command (.rel d) (fun t => .next (respond .ok 0 (release d.toNat t))) s

/-- `REST` (rule R135): the choice and the entry are one step; a pending wake ends the rest state in the same step, through
`Settle()`. -/
def execRest (s : State) : Result :=
  command .rest
    (fun t => .next (respond .ok (wordOfNat (choose t)) { t with restCur := depthField (choose t) })) s

end Sys2Proof.Machine
end

