-- ==== Sys2Proof/Machine/Drain.lean ====
section
/-!
DEFINITION. The serial drain unit: arming and the events `txbl` and `txc` (`spec/43_drain.md` rules R190 to R197), with the
delivery `SyncR` (`spec/41_ringbuffer.md` rule R144) that its pop makes in `SAME_DOMAIN`.
-/
namespace Sys2Proof.Machine

/-- `DrainArm()` (rule R191). An `Acquire` that raises the fatal fault does not undo `DR_ACTIVE <- 1` (rule R213). -/
def drainArm (s : State) : State :=
  if s.halted = false ∧ s.drEn = true ∧ s.drActive = false ∧ s.rd ≠ s.wrSeen then
    { acquire s.drDepth.toNat s with drActive := true }
  else s

/-- `SyncR()` (rule R144). -/
def syncR (s : State) : State := { s with rdSeen := s.rd }

/-- `RD <- Next(RD)`, with the delivery to the producer side in `SAME_DOMAIN` (rules R142, R146, R192). -/
def advanceRead (s : State) : State :=
  match s.cfg.cdc with
  | .sameDomain => syncR { s with rd := nextSlot s.cfg s.rd }
  | .twoDomain => { s with rd := nextSlot s.cfg s.rd }

/-- The event `txbl` (rule R192), before `Settle()`. -/
def txblBody (s : State) : Result :=
  if s.halted = true ∨ s.drActive = false ∨ s.drWait = true then .next s
  else if s.rd ≠ s.wrSeen then
    atSlot s.rd s
      (.next
        { advanceRead s with
          txd := memRead s.rd s
          out := s.out ++ [.tx (memRead s.rd s)]
          drWait := true })
  else .next { release s.drDepth.toNat s with drActive := false }

/-- The event `txc` (rule R193), before `Settle()`. -/
def txcBody (s : State) : State :=
  if s.halted = false ∧ s.drWait = true then { s with drWait := false } else s

end Sys2Proof.Machine
end

