-- ==== Sys2Proof/Machine/Registers.lean ====
section
/-!
DEFINITION. Register access: the columns of the register map (`spec/10_state.md` rule R40), `RegValue`, `WriteLegal`, what a
legal write does, and the commands `RDREG` and `WRREG` (`spec/44_registers.md` rules R200 to R203).
-/
namespace Sys2Proof.Machine

/-- The access column of rule R40. -/
def accessOf : Reg → Access
  | .arbNext | .arbCur | .arbDblrel | .arbCnt _ => .ro
  | .rbRd | .rbWrs | .rbDrop | .rbSize => .ro
  | .tctrl | .tfreq | .tratio | .tdur | .tfloor | .tcomp0 | .tcomp1 | .tpresc => .rw
  | .tcnt | .tpidxA | .tpidxB => .ro
  | .tmodn | .trelmask | .thdepth => .rw
  | .tslot => .ro
  | .drctrl | .drdepth => .rw
  | .drtxd => .ro
  | .intFlag => .ro
  | .intFlagClear => .wo
  | .intEnable => .rw
  | .fault | .faultInfo => .ro

/-- The `WMASK` column of rule R40; no bit of an `RO` register is writable. -/
def wmaskOf (p : Params) : Reg → Word
  | .arbNext | .arbCur | .arbDblrel | .arbCnt _ => 0
  | .rbRd | .rbWrs | .rbDrop | .rbSize => 0
  | .tctrl => 0x00000008
  | .tfreq | .tratio | .tdur | .tfloor => 0xFFFFFFFF
  | .tcomp0 | .tcomp1 => wordOfNat p.tMax
  | .tpresc => 0x0000000F
  | .tcnt | .tpidxA | .tpidxB => 0
  | .tmodn => 0x0000003F
  | .trelmask => 0xFFFFFFFF
  | .thdepth => 0x0000000F
  | .tslot => 0
  | .drctrl => 0x00000001
  | .drdepth => 0x0000000F
  | .drtxd => 0
  | .intFlag => 0
  | .intFlagClear => 0x0000000F
  | .intEnable => 0x0000000F
  | .fault | .faultInfo => 0

/-- The lock column of rule R40. -/
def lockOf : Reg → Lock
  | .arbNext | .arbCur | .arbDblrel | .arbCnt _ => .none
  | .rbRd | .rbWrs | .rbDrop | .rbSize => .none
  | .tctrl | .tfreq | .tratio | .tdur | .tfloor | .tcomp0 | .tcomp1 | .tpresc => .run
  | .tcnt | .tpidxA | .tpidxB => .none
  | .tmodn | .trelmask | .thdepth => .run
  | .tslot => .none
  | .drctrl | .drdepth => .act
  | .drtxd => .none
  | .intFlag | .intFlagClear | .intEnable => .none
  | .fault | .faultInfo => .none

/-- Whether a lock is open (rule R202 (d)). -/
def lockOpen (l : Lock) (s : State) : Bool :=
  match l with
  | .none => true
  | .run => !s.run
  | .act => !s.drActive

/-- The legal range of a field (rule R202 (c)). -/
def rangeLegal (p : Params) (r : Reg) (w : Word) : Bool :=
  match r with
  | .tpresc => decide (w.toNat ≤ p.prescMax)
  | .tmodn => decide (1 ≤ w.toNat ∧ w.toNat ≤ 32)
  | .thdepth | .drdepth => decide (w.toNat < p.ndepth)
  | .arbNext | .arbCur | .arbDblrel | .arbCnt _ | .rbRd | .rbWrs | .rbDrop | .rbSize => true
  | .tctrl | .tfreq | .tratio | .tdur | .tfloor | .tcomp0 | .tcomp1 | .tcnt | .tpidxA | .tpidxB => true
  | .trelmask | .tslot | .drctrl | .drtxd | .intFlag | .intFlagClear | .intEnable => true
  | .fault | .faultInfo => true

/-- `WriteLegal(r, w)` (rule R202): (a) the register is `RW` or `WO`; (b) no 1 outside `WMASK`; (c) the field is in range;
(d) the lock is open. -/
def writeLegal (r : Reg) (w : Word) (s : State) : Bool :=
  (accessOf r != .ro) && (w &&& ~~~(wmaskOf s.cfg r) == 0) && rangeLegal s.cfg r w && lockOpen (lockOf r) s

/-- `RegValue(r)` (rule R200): the fields of rules R41 to R71 at their bit positions, 0 in every other bit. `IFC` is write
only and has no value. -/
def regValue (r : Reg) (s : State) : Word :=
  match r with
  | .arbNext => wordOfNat (choose s)
  | .arbCur => s.restCur.setWidth 32
  | .arbDblrel => s.dblRelCnt.setWidth 32
  | .arbCnt d => wordOfNat (s.holds d)
  | .rbRd => wordOfNat s.rd
  | .rbWrs => wordOfNat s.wrSeen
  | .rbDrop => s.dropSeen.setWidth 32
  | .rbSize => wordOfNat s.cfg.rbSize
  | .tctrl =>
    bitField 0 s.run ||| bitField 1 (timerStateBit s.tstate) ||| bitField 2 s.pol ||| bitField 3 s.polen
  | .tfreq => s.tfreq
  | .tratio => s.tratio
  | .tdur => s.tdur
  | .tfloor => s.tfloor
  | .tcomp0 => wordOfNat s.tcomp0
  | .tcomp1 => wordOfNat s.tcomp1
  | .tpresc => s.tpresc.setWidth 32
  | .tcnt => wordOfNat s.tcnt
  | .tpidxA => s.pidxA
  | .tpidxB => s.pidxB
  | .tmodn => s.tmodn.setWidth 32
  | .trelmask => s.trelmask
  | .thdepth => s.thdepth.setWidth 32
  | .tslot => s.tslot.setWidth 32
  | .drctrl => bitField 0 s.drEn ||| bitField 1 s.drActive ||| bitField 2 s.drWait
  | .drdepth => s.drDepth.setWidth 32
  | .drtxd => s.txd
  | .intFlag => s.iflags.setWidth 32
  | .intFlagClear => 0
  | .intEnable => s.ien.setWidth 32
  | .fault => s.fault.setWidth 32
  | .faultInfo => s.faultInfo

/-- What a legal write does, by register (rule R203). A write to a read-only register is never legal and has no effect to
give here. -/
def writeReg (r : Reg) (w : Word) (s : State) : State :=
  match r with
  | .tctrl => { s with polen := w.getLsbD 3 }
  | .tfreq => { s with tfreq := w }
  | .tratio => { s with tratio := w }
  | .tdur => { s with tdur := w }
  | .tfloor => { s with tfloor := w }
  | .tcomp0 => { s with tcomp0 := w.toNat % 2 ^ s.cfg.timerW }
  | .tcomp1 => { s with tcomp1 := w.toNat % 2 ^ s.cfg.timerW }
  | .tpresc => { s with tpresc := w.extractLsb' 0 4 }
  | .tmodn => { s with tmodn := w.extractLsb' 0 6 }
  | .trelmask => { s with trelmask := w }
  | .thdepth => { s with thdepth := w.extractLsb' 0 4 }
  | .drctrl => drainArm { s with drEn := w.getLsbD 0 }
  | .drdepth => { s with drDepth := w.extractLsb' 0 4 }
  | .intFlagClear => clearFlags (w.extractLsb' 0 4) s
  | .intEnable => { s with ien := w.extractLsb' 0 4 }
  | .arbNext | .arbCur | .arbDblrel | .arbCnt _ | .rbRd | .rbWrs | .rbDrop | .rbSize => s
  | .tcnt | .tpidxA | .tpidxB | .tslot | .drtxd | .intFlag | .fault | .faultInfo => s

/-- `RDREG r` (rule R200): served even by a halted core; the write-only register is `ILLEGAL`, and so is a reserved number,
which static legality has already refused. -/
def execRdreg (r : Byte) (s : State) : Result :=
  command (.rdreg r)
    (fun t =>
      match regOf t.cfg.ndepth r with
      | none => .next (respond .illegal 0 t)
      | some reg =>
        if accessOf reg = .wo then .next (respond .illegal 0 t)
        else .next (respond .ok (regValue reg t) t)) s

/-- `WRREG r, w` (rule R201): an illegal write changes nothing, not even the legal part of a word. -/
def execWrreg (r : Byte) (w : Word) (s : State) : Result :=
  command (.wrreg r w)
    (fun t =>
      match regOf t.cfg.ndepth r with
      | none => .next (respond .illegal 0 t)
      | some reg =>
        if writeLegal reg w t = false then .next (respond .illegal 0 t)
        else .next (respondOkOrFaulted (writeReg reg w t))) s

end Sys2Proof.Machine
end

