-- ==== Sys2Proof/Machine/Ring.lean ====
section
/-!
DEFINITION. The ring buffer: the deliveries `SyncW` and `SyncD` and the commands `PUSH` and `POP`
(`spec/41_ringbuffer.md` rules R141 to R146).
-/
namespace Sys2Proof.Machine

/-- `SyncW()` (rule R143): the write index reaches the consumer side, which may arm the drain unit. -/
def syncW (s : State) : State := drainArm { s with wrSeen := s.wr }

/-- `SyncD()` (rule R145): several drops between two deliveries set the flag once. -/
def syncD (s : State) : State :=
  if s.dropSeen ≠ s.dropCnt then setFlag flagDROP { s with dropSeen := s.dropCnt } else s

/-- A rejected push (rule R141): the drop is counted, and in `SAME_DOMAIN` delivered. -/
def countDrop (s : State) : State :=
  match s.cfg.cdc with
  | .sameDomain => syncD { s with dropCnt := countEvent s.dropCnt }
  | .twoDomain => { s with dropCnt := countEvent s.dropCnt }

/-- `WR <- Next(WR)`, with the delivery to the consumer side in `SAME_DOMAIN` (rules R141, R146). -/
def advanceWrite (s : State) : State :=
  match s.cfg.cdc with
  | .sameDomain => syncW { s with wr := nextSlot s.cfg s.wr }
  | .twoDomain => { s with wr := nextSlot s.cfg s.wr }

/-- `PUSH v` (rule R141), with `v = wdata[SAMPLE_W-1:0]`. The answer is `OK` even where the delivery arms the drain unit
and that raises a fatal fault. -/
def execPush (w : Word) (s : State) : Result :=
  command (.push w)
    (fun t =>
      if nextSlot t.cfg t.wr = t.rdSeen then .next (respond .full 0 (countDrop t))
      else
        atSlot t.wr t
          (.next (respond .ok 0 (advanceWrite (memWrite t.wr (sampleOf t.cfg w) t))))) s

/-- `POP` (rule R142); `ILLEGAL` while the drain unit is the consumer. -/
def execPop (s : State) : Result :=
  command .pop
    (fun t =>
      if t.drEn = true then .next (respond .illegal 0 t)
      else if t.rd = t.wrSeen then .next (respond .empty 0 t)
      else atSlot t.rd t (.next (respond .ok (memRead t.rd t) (advanceRead t)))) s

end Sys2Proof.Machine
end

