-- ==== Sys2Proof/Machine/Timer.lean ====
section
/-!
DEFINITION. The periodic dual-compare timer: `TCALC`, `TSTART`, the event `osc_tick` and the two phases
(`spec/42_timer.md` rules R160 to R167).
-/
namespace Sys2Proof.Machine

/-- The loop of `PrescaleSearch` (rule R162) from shift `k` on, for at most `fuel` turns. -/
def prescaleLoop (tmax period : Nat) : Nat → Nat → Nat
  | 0, k => k
  | fuel + 1, k => if period / 2 ^ k > tmax then prescaleLoop tmax period fuel (k + 1) else k

/-- `PrescaleSearch(P)` (rule R162): the least `k` with `(P >> k) <= TMAX`. "The loop ends after at most `96 - TIMER_W`
turns, since `P < 2^96`." -/
def prescaleSearch (p : Params) (period : Nat) : Nat := prescaleLoop p.tMax period 96 0

/-- A product of rule R161 in unprescaled ticks: hertz times the ratio with 16 fraction bits times milliseconds, exact, and
truncated toward zero. -/
def ticksOf (freq ratio millis : Word) : Nat :=
  freq.toNat * ratio.toNat * millis.toNat / (65536 * 1000)

/-- `TCALC` (rule R161). -/
def execTcalc (s : State) : Result :=
  command .tcalc
    (fun t =>
      if t.run = true then .next (respond .illegal 0 t)
      else
        let period := ticksOf t.tfreq t.tratio t.tdur
        let floor := ticksOf t.tfreq t.tratio t.tfloor
        let k := prescaleSearch t.cfg period
        let c0 := period / 2 ^ k
        let f := floor / 2 ^ k
        if period = 0 then .next (respond .faulted 0 (raiseFatal .cfgZeroPeriod infoTCALC t))
        else if k > t.cfg.prescMax then
          .next (respond .faulted 0 (raiseFatal .cfgNoPrescaler infoTCALC t))
        else if f = 0 ∨ f ≥ c0 then
          .next (respond .faulted 0 (raiseFatal .cfgBadCompare infoTCALC t))
        else
          .next (respond .ok 0
            { t with tcomp0 := c0, tcomp1 := c0 - f, tpresc := BitVec.ofNat 4 k })) s

/-- `TSTART` (rule R163): the timer starts Idle and no event fires. -/
def execTstart (s : State) : Result :=
  command .tstart
    (fun t =>
      if t.run = true then .next (respond .illegal 0 t)
      else if ¬(1 ≤ t.tcomp1 ∧ t.tcomp1 < t.tcomp0) then
        .next (respond .faulted 0 (raiseFatal .cfgBadCompare infoTSTART t))
      else .next (respond .ok 0 { t with tcnt := t.tcomp0, pdiv := 0, run := true })) s

/-- `PhaseA()` (rule R166): if the `Acquire` raises the fatal fault the other four actions still take effect. -/
def phaseA (s : State) : State :=
  let t := acquire s.thdepth.toNat s
  setFlag flagPHA
    { t with tstate := .exciting, out := t.out ++ [.actStart], pidxA := t.pidxA + 1 }

/-- The behaviour slot `PIDX_B mod TMODN`, read before the increment (rule R167). -/
def behaviourSlot (s : State) : Nat := s.pidxB.toNat % s.tmodn.toNat

/-- `PhaseB()` (rule R167): the trace record carries the slot and the new polarity. -/
def phaseB (s : State) : State :=
  let slot := behaviourSlot s
  let t := if s.trelmask.getLsbD slot then release s.thdepth.toNat s else s
  let pol := if s.polen then !s.pol else s.pol
  setFlag flagPHB
    { t with
      tslot := BitVec.ofNat 5 slot
      pol := pol
      tstate := .idle
      out := t.out ++ [.actStop (BitVec.ofNat 5 slot) pol]
      pidxB := t.pidxB + 1 }

/-- `CounterStep()` (rule R165). -/
def counterStep (s : State) : State :=
  if s.tcnt ≤ 1 then phaseA { s with tcnt := s.tcomp0 }
  else
    let t := { s with tcnt := s.tcnt - 1 }
    if s.tcnt - 1 = s.tcomp1 ∧ s.tstate = .exciting then phaseB t else t

/-- The event `osc_tick` (rule R164), before `Settle()`: every `2^TPRESC`-th tick is a counter step. -/
def oscTickBody (s : State) : State :=
  if s.halted = true ∨ s.run = false then s
  else
    let d := (s.pdiv + 1) % 2 ^ s.tpresc.toNat
    if d = 0 then counterStep { s with pdiv := d } else { s with pdiv := d }

end Sys2Proof.Machine
end

