-- ==== Sys2Proof/Machine/Dispatch.lean ====
section
/-! DEFINITION. One arm per command: the meaning each calls. -/
namespace Sys2Proof.Machine

def exec (i : Instr) (s : State) : Host.Outcome State Fault Refusal :=
  match i with
  | .acq d => Sys2Proof.Machine.execAcq d s
  | .rel d => Sys2Proof.Machine.execRel d s
  | .rest => Sys2Proof.Machine.execRest s
  | .push w => Sys2Proof.Machine.execPush w s
  | .pop => Sys2Proof.Machine.execPop s
  | .tcalc => Sys2Proof.Machine.execTcalc s
  | .tstart => Sys2Proof.Machine.execTstart s
  | .rdreg r => Sys2Proof.Machine.execRdreg r s
  | .wrreg r w => Sys2Proof.Machine.execWrreg r w s

end Sys2Proof.Machine
end

