-- ==== Sys2Proof/Machine/Events.lean ====
section
/-!
DEFINITION. The event steps (`spec/00_scope.md` rule R11 (b) to (d)): each is its body and then `Settle()`
(`spec/60_exceptions.md` rule R221).
-/
namespace Sys2Proof.Machine

/-- `wake_ext` (rule R222 (a)), before `Settle()`. -/
def wakeExtBody (s : State) : State := { s with restCur := 0 }

/-- `reset` (rules R250, R251): every element to its reset value in one step, in any state. What the agents still present,
and the parameters, are no state of the core; an unwritten slot is unspecified anew (rule R252). -/
def resetBody (s : State) : State :=
  { State.resetWith s.cfg with inputs := s.inputs, powerUps := s.powerUps + 1 }

/-- One event step. No response is on the wires after it. -/
def takeEvent (e : Event) (s : State) : Result :=
  let t := { s with resp := none }
  match e with
  | .oscTick => .next (settle (oscTickBody t))
  | .txbl => onNext settle (txblBody t)
  | .txc => .next (settle (txcBody t))
  | .wakeExt => .next (settle (wakeExtBody t))
  | .syncw => .next (settle (syncW t))
  | .syncr => .next (settle (syncR t))
  | .syncd => .next (settle (syncD t))
  | .reset => .next (settle (resetBody t))

end Sys2Proof.Machine
end

