-- ==== Sys2Proof/Machine/Step.lean ====
section
/-!
DEFINITION. One step of the core (`spec/00_scope.md` rule R11): the first input of the schedule that the core accepts is
taken; a command is decoded and executed, an event takes its step.
-/
namespace Sys2Proof.Machine

/-- The step that takes one accepted input. A packet that holds no command is answered `ILLEGAL` (rule R108). -/
def deliver (x : Input) (s : State) : Host.Outcome State Fault Refusal :=
  match x with
  | .command p packet =>
    match decode packet with
    | .ok i => exec i (acceptAt p s)
    | .error _ => .next (refuseUndecoded (acceptAt p s))
  | .event e => takeEvent e s

/-- One step. Where no agent has an input the core accepts, no step of rule R11 occurs and the state stands as it is (log
entry 1). -/
def step (s : State) : Host.Outcome State Fault Refusal :=
  match firstAccepted s.resting s.inputs with
  | none => .next s
  | some (x, rest) => deliver x { s with inputs := rest }

/-- The state with the packet of an opcode-table word presented as the very next input the core takes, at a port that may
issue it (log entry 5). -/
def State.withFetchWord (s : State) (nbits w : Nat) : State :=
  presentNext (packetOfTableWord nbits w) s

end Sys2Proof.Machine
end

