-- ==== Sys2Proof/Machine/Outputs.lean ====
section
/-!
DEFINITION. The level outputs, each a function of the state (`spec/10_state.md` rule R36).
-/
namespace Sys2Proof.Machine

/-- The level outputs of rule R36. -/
structure Outputs where
  nextDepth : BitVec 4
  restDepth : BitVec 4
  irq : Bool
  fatal : Bool
  tState : Bool
  pol : Bool
  slot : BitVec 5
  txData : Word
deriving DecidableEq, Repr

/-- The level outputs in a state. -/
def outputsOf (s : State) : Outputs where
  nextDepth := depthField (choose s)
  restDepth := s.restCur
  irq := s.irq
  fatal := s.halted
  tState := timerStateBit s.tstate
  pol := s.pol
  slot := s.tslot
  txData := s.txd

end Sys2Proof.Machine
end

