-- ==== Sys2Proof/Machine/Pseudo.lean ====
section
/-!
DEFINITION. The pseudo-instructions of `spec/30_encoding.md` rule R113, each the sequence of commands it stands for.
-/
namespace Sys2Proof.Machine

/-- `RDCNT d`. -/
def pseudoRdcnt (d : Nat) : List Instr := [.rdreg (regNumber (.arbCnt d))]

/-- `CLRIF m`: what stands in the place of a return from an interrupt (rule R224). -/
def pseudoClrif (m : Word) : List Instr := [.wrreg (regNumber .intFlagClear) m]

/-- `SETIEN m`. -/
def pseudoSetien (m : Word) : List Instr := [.wrreg (regNumber .intEnable) m]

/-- `TSETUP f, r, D, M`. -/
def pseudoTsetup (f r d m : Word) : List Instr :=
  [.wrreg (regNumber .tfreq) f, .wrreg (regNumber .tratio) r, .wrreg (regNumber .tdur) d,
    .wrreg (regNumber .tfloor) m, .tcalc]

/-- `TSETC c0, c1, k`. -/
def pseudoTsetc (c0 c1 k : Word) : List Instr :=
  [.wrreg (regNumber .tcomp0) c0, .wrreg (regNumber .tcomp1) c1, .wrreg (regNumber .tpresc) k]

/-- `DRAINON d`. -/
def pseudoDrainon (d : Word) : List Instr :=
  [.wrreg (regNumber .drdepth) d, .wrreg (regNumber .drctrl) 1]

end Sys2Proof.Machine
end

