-- ==== Sys2Proof/Safety.lean ====
section
/-!
DEFINITION. The terms that claims about the core use: the invariant of its state by units (the ranges of
`spec/10_state.md` rules R21 to R35, rule R28, and the properties Q1 to Q6 of `spec/95_test_vectors.md`), the samples the
ring buffer stores, and finite and infinite schedules of inputs (`spec/00_scope.md` rule R11).
-/
namespace Sys2Proof.Machine

/-! ## The invariant -/

/-- The number of steps forward from ring slot `a` to ring slot `b` on the circle of `S` slots. -/
def ringDist (p : Params) (a b : Nat) : Nat := (b + p.rbSize - a) % p.rbSize

/-- The hold counters: `NDEPTH` of them, none above `HCMAX` (rule R21, property Q1). -/
abbrev ArbiterInv (s : State) : Prop :=
  s.hc.length = s.cfg.ndepth ∧ ∀ c ∈ s.hc, c ≤ s.cfg.hcMax

/-- The rest state: a depth below `NDEPTH`, and none while an enabled flag is pending or the core is halted (rules R22, R221,
property Q2). -/
abbrev RestInv (s : State) : Prop :=
  s.restCur.toNat < s.cfg.ndepth ∧ (s.restCur ≠ 0 → s.irq = false ∧ s.halted = false)

/-- The ring buffer: rule R28 (a) to (d), where (b) is part of `ringDist`'s range; the store is in canonical form, every
sample fits `SAMPLE_W` bits, and in `SAME_DOMAIN` the views equal what they show (rules R24 to R28, R81, R146). -/
abbrev RingInv (s : State) : Prop :=
  (s.wr < s.cfg.rbSize ∧ s.rd < s.cfg.rbSize ∧ s.wrSeen < s.cfg.rbSize ∧ s.rdSeen < s.cfg.rbSize) ∧
    ringDist s.cfg s.rd s.wrSeen ≤ ringDist s.cfg s.rd s.wr ∧
    ringDist s.cfg s.rdSeen s.rd + ringDist s.cfg s.rd s.wr < s.cfg.rbSize ∧
    s.dropSeen.toNat ≤ s.dropCnt.toNat ∧
    (s.cfg.cdc = .sameDomain → s.wrSeen = s.wr ∧ s.rdSeen = s.rd ∧ s.dropSeen = s.dropCnt) ∧
    s.buf.wf ∧
    (∀ c ∈ s.buf, c.1 < s.cfg.rbSize ∧ c.2.toNat < 2 ^ s.cfg.sampleW) ∧
    (∀ k, k < ringDist s.cfg s.rd s.wr → (s.buf.read? ((s.rd + k) % s.cfg.rbSize)).isSome = true) ∧
    s.txd.toNat < 2 ^ s.cfg.sampleW

/-- The timer: the ranges of rules R29, R30, R32 and R57; before the first start nothing has happened; while it runs the
compare values are ordered and the counter is in range (property Q5); the two indices differ exactly while Exciting
(rule R169, property Q4). -/
abbrev TimerInv (s : State) : Prop :=
  (s.tcomp0 ≤ s.cfg.tMax ∧ s.tcomp1 ≤ s.cfg.tMax ∧ s.tpresc.toNat ≤ s.cfg.prescMax) ∧
    (1 ≤ s.tmodn.toNat ∧ s.tmodn.toNat ≤ 32 ∧ s.tslot.toNat < s.tmodn.toNat) ∧
    s.thdepth.toNat < s.cfg.ndepth ∧
    (s.run = false →
      s.tstate = .idle ∧ s.tcnt = 0 ∧ s.pdiv = 0 ∧ s.pidxA = 0 ∧ s.pidxB = 0 ∧ s.pol = false ∧ s.tslot = 0) ∧
    (s.run = true →
      1 ≤ s.tcomp1 ∧ s.tcomp1 < s.tcomp0 ∧ 1 ≤ s.tcnt ∧ s.tcnt ≤ s.tcomp0 ∧ s.pdiv < 2 ^ s.tpresc.toNat) ∧
    (s.tstate = .exciting → s.tcomp1 < s.tcnt ∧ s.pidxA = s.pidxB + 1) ∧
    (s.tstate = .idle → s.pidxA = s.pidxB)

/-- The drain unit: `DR_WAIT` only while active (rule R190, property Q6), active only while enabled (rule R196), a depth below
`NDEPTH` (rule R33), and never disarmed while enabled with a sample in view on a running core (rule R191). -/
abbrev DrainInv (s : State) : Prop :=
  (s.drWait = true → s.drActive = true) ∧ (s.drActive = true → s.drEn = true) ∧
    s.drDepth.toNat < s.cfg.ndepth ∧
    (s.drEn = true → s.drActive = false → s.halted = false → s.rd = s.wrSeen)

/-- The fault record: no fault and nothing recorded, or exactly one kind of fault with the record rule R212 gives it. -/
abbrev FaultInv (s : State) : Prop :=
  (s.fault = 0 ∧ s.faultInfo = 0) ∨
    (s.fault = 1 ∧ ∃ d, d < s.cfg.ndepth ∧ s.faultInfo = faultWord .holdOvf d) ∨
    (s.fault = 2 ∧
      s.faultInfo ∈ [faultWord .cfgZeroPeriod 1, faultWord .cfgNoPrescaler 1, faultWord .cfgBadCompare 1,
        faultWord .cfgBadCompare 2])

/-- The invariant of the core: legal parameters and the invariants of its parts. -/
abbrev CoreInv (s : State) : Prop :=
  s.cfg.Legal ∧ ArbiterInv s ∧ RestInv s ∧ RingInv s ∧ TimerInv s ∧ DrainInv s ∧ FaultInv s

/-! ## How a step ends -/

/-- The state that a command accepted in state `s` leaves when its rule has written `t`: the response goes to the port of
`s` (rule R106), and `REST_CUR` is 0 where the port is `ISR` (rule R109 (1)) or where an enabled flag is pending or the
core is halted at the end of the step (rule R221). -/
def answered (s t : State) (st : Status) (data : Word) : State :=
  { t with
    restCur := if s.port = .isr ∨ t.irq = true ∨ t.halted = true then 0 else t.restCur
    resp := some ⟨s.port, st, data⟩ }

/-- The state that an event step leaves when its rule has written `t`: no response on the wires (log entry 3), and the wake
of rule R221. -/
def settled (t : State) : State :=
  { t with
    restCur := if t.irq = true ∨ t.halted = true then 0 else t.restCur
    resp := none }

/-! ## The samples in the ring buffer -/

/-- The samples stored in the ring buffer, oldest first: those in the slots from `RD` up to but excluding `WR` (rule R28
(d)). -/
def stored (s : State) : List Word :=
  (List.range (ringDist s.cfg s.rd s.wr)).map (fun k => memRead ((s.rd + k) % s.cfg.rbSize) s)

/-! ## Schedules -/

/-- The event as an input. -/
def eventInput (e : Event) : Input := .event e

/-- The command as an input at a port. -/
def commandInput (p : Port) (i : Instr) : Input := .command p (encode i)

/-- The inputs of a schedule taken one after the other from a state: the state after the last, and the responses of the
commands in their order. There is none if a step stops. -/
def runSchedule : List Input → State → Option (State × List Response)
  | [], s => some (s, [])
  | x :: xs, s =>
    match deliver x s with
    | .next t => (runSchedule xs t).map (fun r => (r.1, t.resp.toList ++ r.2))
    | .fault _ => none
    | .refused _ => none

/-- The samples pushed one after the other at the `PROD` port. -/
def pushes (ws : List Word) : List Input := ws.map (fun w => commandInput .prod (.push w))

/-- `n` pops one after the other at the `CONS` port. -/
def pops (n : Nat) : List Input := List.replicate n (commandInput .cons .pop)

/-- `n` ticks of the oscillator. -/
def ticks (n : Nat) : List Input := List.replicate n (eventInput .oscTick)

/-- The delivery of the write index that the consumer needs before it can see a sample: none in `SAME_DOMAIN`, where the
push makes it (rule R146). -/
def deliverWrite (p : Params) : List Input :=
  match p.cdc with
  | .sameDomain => []
  | .twoDomain => [eventInput .syncw]

/-- The delivery of the read index that the producer needs before it can see a free slot. -/
def deliverRead (p : Params) : List Input :=
  match p.cdc with
  | .sameDomain => []
  | .twoDomain => [eventInput .syncr]

/-- An infinite run: `st n` is the state before step `n` and `inp n` the input that step takes. -/
abbrev IsRun (st : Nat → State) (inp : Nat → Input) : Prop :=
  ∀ n, deliver (inp n) (st n) = .next (st (n + 1))

/-- Weak fairness of the three synchroniser agents (rule R92): after any step at which a view differs from what it shows, its
delivery eventually occurs. -/
abbrev FairDeliveries (st : Nat → State) (inp : Nat → Input) : Prop :=
  (∀ n, (st n).wrSeen ≠ (st n).wr → ∃ m, n ≤ m ∧ inp m = eventInput .syncw) ∧
    (∀ n, (st n).rdSeen ≠ (st n).rd → ∃ m, n ≤ m ∧ inp m = eventInput .syncr) ∧
    (∀ n, (st n).dropSeen ≠ (st n).dropCnt → ∃ m, n ≤ m ∧ inp m = eventInput .syncd)

end Sys2Proof.Machine
end

