-- ==== Sys2Proof/Certificates/Slice0/Obligations.lean ====
section
/-!
DEFINITION. The statements for the provers, each from numbered rules of `spec/`. `answered s t st data` is the state a
command accepted in `s` leaves when its rule has written `t`, `settled t` the state an event step leaves; both are
written out in `Sys2Proof/Safety.lean`.
-/

open Sys2Proof Sys2Proof.Machine

/-! ## Decoding and encoding -/

/-- Rules R101 to R105: the packet of a command decodes to that command, also through its bytes (rule R83). -/
def Obligations.DecodeOfEncode : Prop :=
  ∀ i : Instr, decode (encode i) = .ok i ∧ decodeBytes (packetToBytes (encode i)) = some i

/-- Rules R101, R105, R110: a packet decodes to a command exactly when its command word is that command's, and its data word
matters only to `PUSH` and `WRREG`. -/
def Obligations.DecodeAcceptsExactlyTheMap : Prop :=
  ∀ (p : Packet) (i : Instr), decode p = .ok i ↔
    p.cmd = (encode i).cmd ∧
      ((∃ w, i = .push w) ∨ (∃ r w, i = .wrreg r w) → p.wdata = (encode i).wdata)

/-- Rule R105: words written out from the opcode map. -/
def Obligations.WrittenWordsDecode : Prop :=
  decode ⟨0x01000001, 0⟩ = .ok (.acq 1) ∧ decode ⟨0x020000FF, 7⟩ = .ok (.rel 255) ∧
    decode ⟨0x03000000, 0⟩ = .ok .rest ∧ decode ⟨0x10000000, 0x41⟩ = .ok (.push 0x41) ∧
    decode ⟨0x11000000, 0⟩ = .ok .pop ∧ decode ⟨0x20000000, 0⟩ = .ok .tcalc ∧
    decode ⟨0x21000000, 0⟩ = .ok .tstart ∧ decode ⟨0x30000059, 0⟩ = .ok (.rdreg 0x59) ∧
    decode ⟨0x3100003B, 3⟩ = .ok (.wrreg 0x3B 3)

/-- Rules R40, R72: a number names a register exactly when it is that register's number, and `ARB_CNT[d]` only for
`d < NDEPTH`. -/
def Obligations.RegisterNumbersAgree : Prop :=
  ∀ (ndepth : Nat) (n : Byte) (r : Reg), ndepth ≤ 16 →
    (regOf ndepth n = some r ↔ n = regNumber r ∧ ∀ d, r = .arbCnt d → d < ndepth)

/-! ## The step -/

/-- Rule R11: when the first accepted input is a command packet that decodes to `i`, the step is `exec` of `i` in the state
that has taken the input, with the port recorded and no response on the wires. That the inputs stand in one list is the model's
choice, log entry 1. -/
def Obligations.StepRunsDecodedCommand : Prop :=
  ∀ (s : State) (p : Port) (packet : Packet) (rest : List Input) (i : Instr),
    firstAccepted s.resting s.inputs = some (.command p packet, rest) → decode packet = .ok i →
      step s = exec i { s with inputs := rest, port := p, resp := none }

/-- Rule R222: while the processor does not rest the first input is taken; while it rests, commands at the `BG` port stay
where they stand and the first other input is taken; where there is no other, nothing happens. The list of inputs is
the model's choice, log entry 1. -/
def Obligations.RestHoldsBackgroundCommands : Prop :=
  ∀ s : State,
    (s.restCur = 0 → ∀ x rest, s.inputs = x :: rest → step s = deliver x { s with inputs := rest }) ∧
    (s.restCur ≠ 0 → ∀ (held : List Packet) (x : Input) (rest : List Input),
      s.inputs = held.map (.command .bg) ++ x :: rest → (∀ q, x ≠ .command .bg q) →
        step s = deliver x { s with inputs := held.map (.command .bg) ++ rest }) ∧
    (s.restCur ≠ 0 → ∀ held : List Packet, s.inputs = held.map (.command .bg) → step s = .next s)

/-- Rule R108: a packet that is no command, or a command whose operand or port is not legal, is answered `ILLEGAL`; no state
changes but for the wake. -/
def Obligations.StaticallyIllegalIsRefused : Prop :=
  ∀ (p : Port) (packet : Packet) (s : State),
    ((∃ e, decode packet = .error e) ∨
      (∃ d, (decode packet = .ok (.acq d) ∨ decode packet = .ok (.rel d)) ∧
        (s.cfg.ndepth ≤ d.toNat ∨ p = .prod ∨ p = .cons)) ∨
      (decode packet = .ok .rest ∧ p ≠ .bg) ∨
      ((decode packet = .ok .tcalc ∨ decode packet = .ok .tstart) ∧ (p = .prod ∨ p = .cons)) ∨
      ((∃ w, decode packet = .ok (.push w)) ∧ p ≠ .prod) ∨
      (decode packet = .ok .pop ∧ p ≠ .cons) ∨
      (∃ r, (decode packet = .ok (.rdreg r) ∨ ∃ w, decode packet = .ok (.wrreg r w)) ∧
        (regOf s.cfg.ndepth r = none ∨ p = .prod ∨ p = .cons))) →
    deliver (.command p packet) s =
      .next (answered { s with port := p } { s with port := p } .illegal 0)

/-- Rules R109 (3), R214: a halted core answers `FAULTED` to every statically legal command but `RDREG` and `PUSH`, and
changes nothing else. -/
def Obligations.HaltedCoreAnswersFaulted : Prop :=
  ∀ (i : Instr) (s : State), s.halted = true → staticLegal s.cfg s.port i = true →
    (∀ r, i ≠ .rdreg r) → (∀ w, i ≠ .push w) →
      exec i s = .next { s with restCur := 0, resp := some ⟨s.port, .faulted, 0⟩ }

/-- Rule R214: in a halted core `osc_tick`, `txbl` and `txc` change nothing. -/
def Obligations.HaltedCoreIgnoresTimerAndTransmitter : Prop :=
  ∀ (e : Event) (s : State), s.halted = true → (e = .oscTick ∨ e = .txbl ∨ e = .txc) →
    takeEvent e s = .next { s with restCur := 0, resp := none }

/-- Rule R214 and property Q8: with a fatal fault recorded no step but a `PUSH`, a synchroniser delivery, a wake and reset
changes any element: everything outside the core's ports stays, and the processor is awake. -/
def Obligations.HaltedCoreIsFrozen : Prop :=
  ∀ (x : Input) (s t : State), s.halted = true → deliver x s = .next t →
    x ≠ .event .reset → x ≠ .event .syncw → x ≠ .event .syncr → x ≠ .event .syncd →
    (∀ q w, x = .command .prod q → decode q ≠ .ok (.push w)) →
      t = { s with restCur := 0, port := t.port, resp := t.resp }

/-! ## The sleep arbiter -/

/-- Rules R131, R133, R212, R213: below `HCMAX`, `ACQ d` adds one to `HC[d]` and answers `OK`; at `HCMAX` the counter stays,
`HOLD_OVF` is raised with the depth in `INFO`, and the answer is `FAULTED`. Nothing else changes. -/
def Obligations.AcqAddsOneHoldOrHalts : Prop :=
  ∀ (d : Byte) (s : State), (s.port = .bg ∨ s.port = .isr) → s.halted = false → d.toNat < s.cfg.ndepth →
    (s.holds d.toNat < s.cfg.hcMax →
      exec (.acq d) s =
        .next (answered s { s with hc := s.hc.set d.toNat (s.holds d.toNat + 1) } .ok 0)) ∧
    (s.holds d.toNat = s.cfg.hcMax →
      exec (.acq d) s =
        .next (answered s { s with fault := 1, faultInfo := BitVec.ofNat 32 (256 * d.toNat + 1) } .faulted 0))

/-- Rules R132, R134: `REL d` takes one from a counter that is not zero; at zero it leaves the counter, counts the double
release up to 65535 and sets `IF.DBLREL`; the answer is `OK` both times. -/
def Obligations.RelTakesOneHoldOrCounts : Prop :=
  ∀ (d : Byte) (s : State), (s.port = .bg ∨ s.port = .isr) → s.halted = false → d.toNat < s.cfg.ndepth →
    (0 < s.holds d.toNat →
      exec (.rel d) s =
        .next (answered s { s with hc := s.hc.set d.toNat (s.holds d.toNat - 1) } .ok 0)) ∧
    (s.holds d.toNat = 0 →
      exec (.rel d) s =
        .next (answered s
          { s with
            dblRelCnt := if s.dblRelCnt = 65535 then 65535 else s.dblRelCnt + 1
            iflags := s.iflags ||| 8 } .ok 0))

/-- Rules R130, R135: `REST` enters and answers the shallowest depth with a hold, or the deepest depth if there is none;
with a wake pending it ends at 0 in the same step. -/
def Obligations.RestEntersShallowestHeldDepth : Prop :=
  ∀ (d : Nat) (s : State), s.port = .bg → s.halted = false →
    ((d < s.cfg.ndepth ∧ s.holds d ≠ 0 ∧ ∀ e, e < d → s.holds e = 0) ∨
      ((∀ e, e < s.cfg.ndepth → s.holds e = 0) ∧ d = s.cfg.ndepth - 1)) →
    exec .rest s =
      .next (answered s { s with restCur := BitVec.ofNat 4 d } .ok (BitVec.ofNat 32 d))

/-- Rule R138, in the corrected form of conflict C9: from a counter at zero, an interleaving of `ACQ d` and `REL d` at the two
ports with at most `HCMAX` acquires leaves the difference when no prefix has more releases than acquires; when all the `N`
acquires come before the `M > N` releases it leaves 0 and counts the releases that were too many. The commands are delivered one
after the other: that a resting processor's commands at `BG` are held is a matter of `step` and not of `deliver`, log
entry 11. -/
def Obligations.HoldReleaseBalance : Prop :=
  ∀ (d : Byte) (s : State) (ops : List (Port × Instr)), CoreInv s → s.halted = false →
    d.toNat < s.cfg.ndepth → s.holds d.toNat = 0 →
    (∀ o ∈ ops, (o.1 = .bg ∨ o.1 = .isr) ∧ (o.2 = .acq d ∨ o.2 = .rel d)) →
    (ops.map Prod.snd).count (.acq d) ≤ s.cfg.hcMax →
    ((∀ k, ((ops.map Prod.snd).take k).count (.rel d) ≤ ((ops.map Prod.snd).take k).count (.acq d)) →
      ∃ t r, runSchedule (ops.map (fun o => commandInput o.1 o.2)) s = some (t, r) ∧
        t.holds d.toNat = (ops.map Prod.snd).count (.acq d) - (ops.map Prod.snd).count (.rel d) ∧
        t.dblRelCnt = s.dblRelCnt ∧ t.halted = false) ∧
    (∀ n m : Nat, ops.map Prod.snd = List.replicate n (Instr.acq d) ++ List.replicate m (Instr.rel d) → n < m →
      ∃ t r, runSchedule (ops.map (fun o => commandInput o.1 o.2)) s = some (t, r) ∧
        t.holds d.toNat = 0 ∧ t.dblRelCnt.toNat = min 65535 (s.dblRelCnt.toNat + (m - n)))

/-- Rules R21, R137: a step that is no reset moves no hold counter by more than one: no command clears a counter. -/
def Obligations.HoldCountersMoveByOne : Prop :=
  ∀ (x : Input) (s t : State) (d : Nat), deliver x s = .next t → x ≠ .event .reset →
    t.holds d ≤ s.holds d + 1 ∧ s.holds d ≤ t.holds d + 1

/-! ## The ring buffer -/

/-- Rules R141, R146: an accepted `PUSH` that arms nothing stores the low `SAMPLE_W` bits of the data word in slot `WR`, leaves
every other slot, advances `WR`, and in `SAME_DOMAIN` the consumer's view with it. -/
def Obligations.PushStoresSample : Prop :=
  ∀ (w : Word) (s : State), s.port = .prod → (s.wr + 1) % s.cfg.rbSize ≠ s.rdSeen → s.wr < s.cfg.rbSize →
    ∃ m : Memory,
      (m.read? s.wr = some (BitVec.ofNat 32 (w.toNat % 2 ^ s.cfg.sampleW)) ∧
        ∀ a, a ≠ s.wr → m.read? a = s.buf.read? a) ∧
      (s.cfg.cdc = .twoDomain →
        exec (.push w) s =
          .next (answered s { s with buf := m, wr := (s.wr + 1) % s.cfg.rbSize } .ok 0)) ∧
      (s.cfg.cdc = .sameDomain →
        (s.drEn = false ∨ s.drActive = true ∨ s.halted = true ∨ s.rd = (s.wr + 1) % s.cfg.rbSize) →
        exec (.push w) s =
          .next (answered s
            { s with
              buf := m
              wr := (s.wr + 1) % s.cfg.rbSize
              wrSeen := (s.wr + 1) % s.cfg.rbSize } .ok 0))

/-- Rules R141, R191, R213: in `SAME_DOMAIN` an accepted `PUSH` arms an enabled, disarmed drain unit: one hold at `DRDEPTH`,
or at `HCMAX` the fatal fault; the sample is stored and the answer is `OK` either way. -/
def Obligations.PushArmsDrainUnit : Prop :=
  ∀ (w : Word) (s : State), s.port = .prod → (s.wr + 1) % s.cfg.rbSize ≠ s.rdSeen → s.wr < s.cfg.rbSize →
    s.cfg.cdc = .sameDomain → s.halted = false → s.drEn = true → s.drActive = false →
    s.rd ≠ (s.wr + 1) % s.cfg.rbSize →
    ∃ m : Memory,
      (m.read? s.wr = some (BitVec.ofNat 32 (w.toNat % 2 ^ s.cfg.sampleW)) ∧
        ∀ a, a ≠ s.wr → m.read? a = s.buf.read? a) ∧
      (s.holds s.drDepth.toNat < s.cfg.hcMax →
        exec (.push w) s =
          .next (answered s
            { s with
              buf := m
              wr := (s.wr + 1) % s.cfg.rbSize
              wrSeen := (s.wr + 1) % s.cfg.rbSize
              hc := s.hc.set s.drDepth.toNat (s.holds s.drDepth.toNat + 1)
              drActive := true } .ok 0)) ∧
      (s.holds s.drDepth.toNat = s.cfg.hcMax →
        exec (.push w) s =
          .next (answered s
            { s with
              buf := m
              wr := (s.wr + 1) % s.cfg.rbSize
              wrSeen := (s.wr + 1) % s.cfg.rbSize
              fault := 1
              faultInfo := BitVec.ofNat 32 (256 * s.drDepth.toNat + 1)
              drActive := true } .ok 0))

/-- Rules R141, R145, R216: a `PUSH` that finds the buffer full as the producer sees it stores nothing, is answered `FULL` and
counted up to 65535; in `SAME_DOMAIN` the core domain learns of it in the same step. -/
def Obligations.PushOnFullIsCounted : Prop :=
  ∀ (w : Word) (s : State) (c : BitVec 16), s.port = .prod → (s.wr + 1) % s.cfg.rbSize = s.rdSeen →
    c = (if s.dropCnt = 65535 then 65535 else s.dropCnt + 1) →
    (s.cfg.cdc = .twoDomain →
      exec (.push w) s = .next (answered s { s with dropCnt := c } .full 0)) ∧
    (s.cfg.cdc = .sameDomain →
      exec (.push w) s =
        .next (answered s
          { s with
            dropCnt := c
            dropSeen := c
            iflags := if s.dropSeen = c then s.iflags else s.iflags ||| 4 } .full 0))

/-- Rules R142, R146: `POP` answers the sample in slot `RD` and advances `RD`, in `SAME_DOMAIN` with the producer's view; the
slot is not cleared. A slot that holds no value answers a value of which nothing is said (rule R252). -/
def Obligations.PopReturnsOldest : Prop :=
  ∀ s : State, s.port = .cons → s.halted = false → s.drEn = false → s.rd ≠ s.wrSeen → s.rd < s.cfg.rbSize →
    ∃ v : Word, (∀ u, s.buf.read? s.rd = some u → v = u) ∧
      (s.cfg.cdc = .twoDomain →
        exec .pop s = .next (answered s { s with rd := (s.rd + 1) % s.cfg.rbSize } .ok v)) ∧
      (s.cfg.cdc = .sameDomain →
        exec .pop s =
          .next (answered s
            { s with
              rd := (s.rd + 1) % s.cfg.rbSize
              rdSeen := (s.rd + 1) % s.cfg.rbSize } .ok v))

/-- Rules R142, R196: `POP` is `ILLEGAL` while the drain unit is the consumer, and `EMPTY` when the buffer is empty as the
consumer sees it; neither changes anything. -/
def Obligations.PopRefusedOrEmpty : Prop :=
  ∀ s : State, s.port = .cons → s.halted = false →
    (s.drEn = true → exec .pop s = .next (answered s s .illegal 0)) ∧
    (s.drEn = false → s.rd = s.wrSeen → exec .pop s = .next (answered s s .empty 0))

/-- Rule R81 and the model's choice of log entry 6: an access to a slot at or above `S` stops the machine. -/
def Obligations.MissingSlotStops : Prop :=
  ∀ (w : Word) (s : State),
    (s.port = .prod → (s.wr + 1) % s.cfg.rbSize ≠ s.rdSeen → s.cfg.rbSize ≤ s.wr →
      exec (.push w) s = .fault (.noSuchSlot s.wr)) ∧
    (s.port = .cons → s.halted = false → s.drEn = false → s.rd ≠ s.wrSeen → s.cfg.rbSize ≤ s.rd →
      exec .pop s = .fault (.noSuchSlot s.rd)) ∧
    (s.halted = false → s.drActive = true → s.drWait = false → s.rd ≠ s.wrSeen → s.cfg.rbSize ≤ s.rd →
      takeEvent .txbl s = .fault (.noSuchSlot s.rd))

/-- Rules R143 to R145: what the three deliveries write, where `syncw` arms nothing. -/
def Obligations.DeliveriesCopyTheirSource : Prop :=
  ∀ s : State,
    ((s.drEn = false ∨ s.drActive = true ∨ s.halted = true ∨ s.rd = s.wr) →
      takeEvent .syncw s = .next (settled { s with wrSeen := s.wr })) ∧
    takeEvent .syncr s = .next (settled { s with rdSeen := s.rd }) ∧
    takeEvent .syncd s =
      .next (settled
        { s with
          dropSeen := s.dropCnt
          iflags := if s.dropSeen = s.dropCnt then s.iflags else s.iflags ||| 4 })

/-- Rule R146: in `SAME_DOMAIN` the three synchroniser events change nothing. -/
def Obligations.DeliveriesIdleInSameDomain : Prop :=
  ∀ (e : Event) (s : State), CoreInv s → s.cfg.cdc = .sameDomain → (e = .syncw ∨ e = .syncr ∨ e = .syncd) →
    takeEvent e s = .next { s with resp := none }

/-- Rules R88 (e), R149: in `TWO_DOMAIN` a step of the core domain (no `PUSH` at `PROD`, no delivery, no reset) leaves what the
producer side sees, and a command at the `PROD` port leaves the core domain but for the wake. -/
def Obligations.DomainsMeetOnlyAtDeliveries : Prop :=
  ∀ (x : Input) (s t : State), s.cfg.cdc = .twoDomain → deliver x s = .next t →
    ((∀ q, x ≠ .command .prod q) → x ≠ .event .syncr → x ≠ .event .reset →
      t.wr = s.wr ∧ t.rdSeen = s.rdSeen ∧ t.dropCnt = s.dropCnt ∧ t.buf = s.buf) ∧
    ((∃ q, x = .command .prod q) →
      t = { s with
            wr := t.wr, dropCnt := t.dropCnt, buf := t.buf, restCur := t.restCur, port := t.port, resp := t.resp })

/-- Rules R28, R148: under the invariant the ring buffer is a queue: an accepted push appends its sample, a pop that answers
`OK` and a transmission each take the oldest, and no other step but reset changes what is stored. -/
def Obligations.RingBufferIsAQueue : Prop :=
  ∀ (x : Input) (s t : State), CoreInv s → deliver x s = .next t →
    (∀ q w, x = .command .prod q → decode q = .ok (.push w) → t.resp = some ⟨.prod, .ok, 0⟩ →
      stored t = stored s ++ [BitVec.ofNat 32 (w.toNat % 2 ^ s.cfg.sampleW)]) ∧
    (∀ q v, x = .command .cons q → t.resp = some ⟨.cons, .ok, v⟩ → stored s = v :: stored t) ∧
    (∀ v, x = .event .txbl → t.out = s.out ++ [.tx v] → stored s = v :: stored t) ∧
    (x ≠ .event .reset → (∀ q, x = .command .prod q → t.resp ≠ some ⟨.prod, .ok, 0⟩) →
      (∀ q v, x = .command .cons q → t.resp ≠ some ⟨.cons, .ok, v⟩) →
      (∀ v, x = .event .txbl → t.out ≠ s.out ++ [.tx v]) → stored t = stored s)

/-- Rule R147, with the deliveries it asks for in `TWO_DOMAIN`: from an empty buffer that the producer sees as empty, `S - 1`
pushes are accepted and the next answers `FULL`; after one pop exactly one more push is accepted. -/
def Obligations.CapacityIsOneLessThanSize : Prop :=
  ∀ (s : State) (v : Word) (vs : List Word) (a b c : Word), CoreInv s → s.halted = false → s.drEn = false →
    stored s = [] → s.rdSeen = s.rd → (v :: vs).length = s.cfg.rbSize - 1 →
    ∃ t, runSchedule
        (pushes (v :: vs) ++ pushes [a] ++ deliverWrite s.cfg ++ pops 1 ++ deliverRead s.cfg ++ pushes [b, c]) s =
      some (t, (v :: vs).map (fun _ => ⟨.prod, .ok, 0⟩) ++
        [⟨.prod, .full, 0⟩, ⟨.cons, .ok, BitVec.ofNat 32 (v.toNat % 2 ^ s.cfg.sampleW)⟩, ⟨.prod, .ok, 0⟩,
          ⟨.prod, .full, 0⟩])

/-- Rule R148, first sentence: at most `S - 1` samples pushed with no pop between them are popped in the same order (in
`TWO_DOMAIN` after the delivery of the write index). -/
def Obligations.PopsReturnPushesInOrder : Prop :=
  ∀ (s : State) (vs : List Word), CoreInv s → s.halted = false → s.drEn = false → stored s = [] →
    s.rdSeen = s.rd → vs.length ≤ s.cfg.rbSize - 1 →
    ∃ t, runSchedule (pushes vs ++ deliverWrite s.cfg ++ pops vs.length) s =
        some (t, vs.map (fun _ => ⟨.prod, .ok, 0⟩) ++
          vs.map (fun v => ⟨.cons, .ok, BitVec.ofNat 32 (v.toNat % 2 ^ s.cfg.sampleW)⟩)) ∧
      stored t = []

/-- Rules R92, R149: in a run whose synchronisers are weakly fair, a view that differs from its index equals it again at
some later point. -/
def Obligations.FairRunsCureStaleViews : Prop :=
  ∀ (st : Nat → State) (inp : Nat → Input), IsRun st inp → FairDeliveries st inp → ∀ n,
    ((st n).wrSeen ≠ (st n).wr → ∃ m, n < m ∧ (st m).wrSeen = (st m).wr) ∧
    ((st n).rdSeen ≠ (st n).rd → ∃ m, n < m ∧ (st m).rdSeen = (st m).rd) ∧
    ((st n).dropSeen ≠ (st n).dropCnt → ∃ m, n < m ∧ (st m).dropSeen = (st m).dropCnt)

/-! ## The timer -/

/-- Rules R161, R162: `TCALC` on a stopped timer, with `P` and `F` the two truncated products, `k` the least shift under which
`P` fits `TMAX`, and a scaled floor of at least 1 and below the scaled period: the compare values, the prescale shift
and `OK`. -/
def Obligations.TcalcDerivesCompareValues : Prop :=
  ∀ (s : State) (P F k : Nat), (s.port = .bg ∨ s.port = .isr) → s.halted = false → s.run = false →
    P = s.tfreq.toNat * s.tratio.toNat * s.tdur.toNat / 65536000 →
    F = s.tfreq.toNat * s.tratio.toNat * s.tfloor.toNat / 65536000 →
    P ≠ 0 → P / 2 ^ k ≤ 2 ^ s.cfg.timerW - 1 → (∀ j, j < k → 2 ^ s.cfg.timerW - 1 < P / 2 ^ j) →
    k ≤ s.cfg.prescMax → 1 ≤ F / 2 ^ k → F / 2 ^ k < P / 2 ^ k →
    exec .tcalc s =
      .next (answered s
        { s with
          tcomp0 := P / 2 ^ k
          tcomp1 := P / 2 ^ k - F / 2 ^ k
          tpresc := BitVec.ofNat 4 k } .ok 0)

/-- Rules R161, R212: `TCALC` while running is `ILLEGAL`; a period of 0, a shift above `PRESC_MAX`, and a scaled floor of 0 or
not below the scaled period are the three fatal configuration errors, checked in this order, with `INFO = 1`. -/
def Obligations.TcalcRejectsConfiguration : Prop :=
  ∀ (s : State) (P F k : Nat), (s.port = .bg ∨ s.port = .isr) → s.halted = false →
    P = s.tfreq.toNat * s.tratio.toNat * s.tdur.toNat / 65536000 →
    F = s.tfreq.toNat * s.tratio.toNat * s.tfloor.toNat / 65536000 →
    P / 2 ^ k ≤ 2 ^ s.cfg.timerW - 1 → (∀ j, j < k → 2 ^ s.cfg.timerW - 1 < P / 2 ^ j) →
    (s.run = true → exec .tcalc s = .next (answered s s .illegal 0)) ∧
    (s.run = false → P = 0 →
      exec .tcalc s = .next (answered s { s with fault := 2, faultInfo := 0x102 } .faulted 0)) ∧
    (s.run = false → P ≠ 0 → s.cfg.prescMax < k →
      exec .tcalc s = .next (answered s { s with fault := 2, faultInfo := 0x103 } .faulted 0)) ∧
    (s.run = false → P ≠ 0 → k ≤ s.cfg.prescMax → (F / 2 ^ k = 0 ∨ P / 2 ^ k ≤ F / 2 ^ k) →
      exec .tcalc s = .next (answered s { s with fault := 2, faultInfo := 0x104 } .faulted 0))

/-- Rules R162, R171: `PrescaleSearch(P)` is the least shift under which `P` fits `TMAX`. -/
def Obligations.PrescaleSearchIsLeast : Prop :=
  ∀ (p : Params) (P k : Nat), P < 2 ^ 96 → prescaleSearch p P = k →
    P / 2 ^ k ≤ 2 ^ p.timerW - 1 ∧ (k ≠ 0 → 2 ^ p.timerW - 1 < P / 2 ^ (k - 1))

/-- Rule R170 and property Q9: when `TCALC` answers `OK` the compare values are ordered and fit, and a following `TSTART` at
the same port answers `OK`. -/
def Obligations.TcalcResultStarts : Prop :=
  ∀ s t : State, exec .tcalc s = .next t → t.resp = some ⟨s.port, .ok, 0⟩ →
    (1 ≤ t.tcomp1 ∧ t.tcomp1 < t.tcomp0 ∧ t.tcomp0 ≤ 2 ^ s.cfg.timerW - 1) ∧
      (s.cfg.prescMax ≤ 15 → t.tpresc.toNat ≤ s.cfg.prescMax) ∧
      ∃ u, exec .tstart t = .next u ∧ u.resp = some ⟨s.port, .ok, 0⟩ ∧ u.run = true

/-- Rule R163: `TSTART` on a stopped timer with ordered compare values loads the counter and sets `RUN`; the timer stays as
Idle as it was and no event fires. -/
def Obligations.TstartLoadsCounter : Prop :=
  ∀ s : State, (s.port = .bg ∨ s.port = .isr) → s.halted = false → s.run = false →
    1 ≤ s.tcomp1 → s.tcomp1 < s.tcomp0 →
      exec .tstart s =
        .next (answered s { s with tcnt := s.tcomp0, pdiv := 0, run := true } .ok 0)

/-- Rules R163, R212: `TSTART` while running is `ILLEGAL`; with compare values that are not ordered it raises
`CFG_BAD_COMPARE` with `INFO = 2`. -/
def Obligations.TstartRejects : Prop :=
  ∀ s : State, (s.port = .bg ∨ s.port = .isr) → s.halted = false →
    (s.run = true → exec .tstart s = .next (answered s s .illegal 0)) ∧
    (s.run = false → (s.tcomp1 = 0 ∨ s.tcomp0 ≤ s.tcomp1) →
      exec .tstart s = .next (answered s { s with fault := 2, faultInfo := 0x204 } .faulted 0))

/-- Rules R164, R165: a tick before the start changes nothing; a tick that is not the `2^TPRESC`-th moves only the divider; a
counter step that neither reloads nor matches while Exciting moves only the counter. -/
def Obligations.TickCountsDown : Prop :=
  ∀ s : State, s.halted = false →
    (s.run = false → takeEvent .oscTick s = .next (settled s)) ∧
    (s.run = true → (s.pdiv + 1) % 2 ^ s.tpresc.toNat ≠ 0 →
      takeEvent .oscTick s = .next (settled { s with pdiv := (s.pdiv + 1) % 2 ^ s.tpresc.toNat })) ∧
    (s.run = true → (s.pdiv + 1) % 2 ^ s.tpresc.toNat = 0 → 1 < s.tcnt →
      ¬(s.tcnt - 1 = s.tcomp1 ∧ s.tstate = .exciting) →
      takeEvent .oscTick s = .next (settled { s with pdiv := 0, tcnt := s.tcnt - 1 }))

/-- Rules R165, R166, R213: the counter step that reloads is phase A: five actions, of which an overflow of the hold counter
replaces the first by the fatal fault and leaves the other four. -/
def Obligations.ReloadIsPhaseA : Prop :=
  ∀ s : State, s.halted = false → s.run = true → (s.pdiv + 1) % 2 ^ s.tpresc.toNat = 0 → s.tcnt ≤ 1 →
    (s.holds s.thdepth.toNat < s.cfg.hcMax →
      takeEvent .oscTick s =
        .next (settled
          { s with
            pdiv := 0
            tcnt := s.tcomp0
            hc := s.hc.set s.thdepth.toNat (s.holds s.thdepth.toNat + 1)
            tstate := .exciting
            out := s.out ++ [.actStart]
            pidxA := s.pidxA + 1
            iflags := s.iflags ||| 1 })) ∧
    (s.holds s.thdepth.toNat = s.cfg.hcMax →
      takeEvent .oscTick s =
        .next (settled
          { s with
            pdiv := 0
            tcnt := s.tcomp0
            fault := 1
            faultInfo := BitVec.ofNat 32 (256 * s.thdepth.toNat + 1)
            tstate := .exciting
            out := s.out ++ [.actStart]
            pidxA := s.pidxA + 1
            iflags := s.iflags ||| 1 }))

/-- Rules R165, R167: the counter step that arrives at `TCOMP1` while Exciting is phase B: the slot `PIDX_B mod TMODN` is
selected before `PIDX_B` moves, the hold is released when the slot's mask bit is 1, and the polarity inverts when `POLEN`
is 1. -/
def Obligations.MatchIsPhaseB : Prop :=
  ∀ (s : State) (n : Nat) (pol : Bool), s.halted = false → s.run = true →
    (s.pdiv + 1) % 2 ^ s.tpresc.toNat = 0 → 1 < s.tcnt → s.tcnt - 1 = s.tcomp1 → s.tstate = .exciting →
    n = s.pidxB.toNat % s.tmodn.toNat → pol = (if s.polen = true then !s.pol else s.pol) →
    (s.trelmask.getLsbD n = false →
      takeEvent .oscTick s =
        .next (settled
          { s with
            pdiv := 0
            tcnt := s.tcomp1
            tslot := BitVec.ofNat 5 n
            pol := pol
            tstate := .idle
            out := s.out ++ [.actStop (BitVec.ofNat 5 n) pol]
            pidxB := s.pidxB + 1
            iflags := s.iflags ||| 2 })) ∧
    (s.trelmask.getLsbD n = true → 0 < s.holds s.thdepth.toNat →
      takeEvent .oscTick s =
        .next (settled
          { s with
            pdiv := 0
            tcnt := s.tcomp1
            hc := s.hc.set s.thdepth.toNat (s.holds s.thdepth.toNat - 1)
            tslot := BitVec.ofNat 5 n
            pol := pol
            tstate := .idle
            out := s.out ++ [.actStop (BitVec.ofNat 5 n) pol]
            pidxB := s.pidxB + 1
            iflags := s.iflags ||| 2 })) ∧
    (s.trelmask.getLsbD n = true → s.holds s.thdepth.toNat = 0 →
      takeEvent .oscTick s =
        .next (settled
          { s with
            pdiv := 0
            tcnt := s.tcomp1
            dblRelCnt := if s.dblRelCnt = 65535 then 65535 else s.dblRelCnt + 1
            tslot := BitVec.ofNat 5 n
            pol := pol
            tstate := .idle
            out := s.out ++ [.actStop (BitVec.ofNat 5 n) pol]
            pidxB := s.pidxB + 1
            iflags := s.iflags ||| 8 ||| 2 }))

/-- Rule R168: from a start, with the reset value of `TRELMASK`, after `n` ticks and so `j = n / 2^TPRESC` counter steps there
have been `j / TCOMP0` phase-A events, as many phase-B events as steps `m*TCOMP0 + (TCOMP0 - TCOMP1)` with `m ≥ 1` up to
`j`, the timer is Exciting exactly from a phase A to the following phase B, and its contribution to its hold counter is 1
while Exciting and 0 while Idle. The schedule is of ticks alone; inputs of other kinds between them are left out. -/
def Obligations.PhasesFollowTheSchedule : Prop :=
  ∀ (s : State) (n j : Nat), CoreInv s → s.halted = false → s.run = true → s.tstate = .idle →
    s.tcnt = s.tcomp0 → s.pdiv = 0 → s.pidxA = 0 → s.pidxB = 0 → s.trelmask = 0xFFFFFFFF →
    s.holds s.thdepth.toNat < s.cfg.hcMax → j = n / 2 ^ s.tpresc.toNat →
    ∃ t, runSchedule (ticks n) s = some (t, []) ∧
      t.pidxA = BitVec.ofNat 32 (j / s.tcomp0) ∧
      t.pidxB = BitVec.ofNat 32 ((j + s.tcomp1) / s.tcomp0 - 1) ∧
      (t.tstate = .exciting ↔ s.tcomp0 ≤ j ∧ j % s.tcomp0 < s.tcomp0 - s.tcomp1) ∧
      t.holds s.thdepth.toNat =
        s.holds s.thdepth.toNat + (if t.tstate = .exciting then 1 else 0)

/-- Rules R202 (d), R266: with `RUN = 1`, every step but reset keeps `RUN` at 1 and the timer's configuration as it is. (A
fatal fault stops the timer by the halt, rules R174 and R214, and leaves `RUN` at 1.) -/
def Obligations.RunningTimerIsFixed : Prop :=
  ∀ (x : Input) (s t : State), deliver x s = .next t → s.run = true → x ≠ .event .reset →
    t.run = true ∧ t.tfreq = s.tfreq ∧ t.tratio = s.tratio ∧ t.tdur = s.tdur ∧ t.tfloor = s.tfloor ∧
      t.tcomp0 = s.tcomp0 ∧ t.tcomp1 = s.tcomp1 ∧ t.tpresc = s.tpresc ∧ t.tmodn = s.tmodn ∧
      t.trelmask = s.trelmask ∧ t.thdepth = s.thdepth ∧ t.polen = s.polen

/-! ## The drain unit -/

/-- Rules R143, R191: a delivery of the write index arms an enabled, disarmed unit that then sees a sample: one hold at
`DRDEPTH`, or at `HCMAX` the fatal fault, and `DR_ACTIVE` both times. -/
def Obligations.DeliveryArmsDrainUnit : Prop :=
  ∀ s : State, s.halted = false → s.drEn = true → s.drActive = false → s.rd ≠ s.wr →
    (s.holds s.drDepth.toNat < s.cfg.hcMax →
      takeEvent .syncw s =
        .next (settled
          { s with
            wrSeen := s.wr
            hc := s.hc.set s.drDepth.toNat (s.holds s.drDepth.toNat + 1)
            drActive := true })) ∧
    (s.holds s.drDepth.toNat = s.cfg.hcMax →
      takeEvent .syncw s =
        .next (settled
          { s with
            wrSeen := s.wr
            fault := 1
            faultInfo := BitVec.ofNat 32 (256 * s.drDepth.toNat + 1)
            drActive := true }))

/-- Rule R192: `txbl` in the ready unit pops one sample, presents it to the transmitter and begins the wait; with nothing in
view it gives its hold back and disarms; in a halted core and in a disarmed or waiting unit it is ignored. -/
def Obligations.TransmitterEmptyDrainsOne : Prop :=
  ∀ s : State,
    ((s.halted = true ∨ s.drActive = false ∨ s.drWait = true) → takeEvent .txbl s = .next (settled s)) ∧
    (s.halted = false → s.drActive = true → s.drWait = false → s.rd ≠ s.wrSeen → s.rd < s.cfg.rbSize →
      ∃ v : Word, (∀ u, s.buf.read? s.rd = some u → v = u) ∧
        takeEvent .txbl s =
          .next (settled
            { s with
              rd := (s.rd + 1) % s.cfg.rbSize
              rdSeen := if s.cfg.cdc = .sameDomain then (s.rd + 1) % s.cfg.rbSize else s.rdSeen
              txd := v
              out := s.out ++ [.tx v]
              drWait := true })) ∧
    (s.halted = false → s.drActive = true → s.drWait = false → s.rd = s.wrSeen → 0 < s.holds s.drDepth.toNat →
      takeEvent .txbl s =
        .next (settled
          { s with
            hc := s.hc.set s.drDepth.toNat (s.holds s.drDepth.toNat - 1)
            drActive := false })) ∧
    (s.halted = false → s.drActive = true → s.drWait = false → s.rd = s.wrSeen → s.holds s.drDepth.toNat = 0 →
      takeEvent .txbl s =
        .next (settled
          { s with
            dblRelCnt := if s.dblRelCnt = 65535 then 65535 else s.dblRelCnt + 1
            iflags := s.iflags ||| 8
            drActive := false }))

/-- Rules R193, R222 (a): `txc` ends the wait and is ignored where there is none; `wake_ext` clears `REST_CUR` and, by rule
R236, changes nothing else. -/
def Obligations.TransmitCompleteAndWake : Prop :=
  ∀ s : State,
    (s.halted = false → s.drWait = true → takeEvent .txc s = .next (settled { s with drWait := false })) ∧
    ((s.halted = true ∨ s.drWait = false) → takeEvent .txc s = .next (settled s)) ∧
    takeEvent .wakeExt s = .next { s with restCur := 0, resp := none }

/-- Rule R194: a step that changes `DR_ACTIVE` from 0 to 1 makes one acquire at `DRDEPTH` (or, with the counter at `HCMAX`,
raises the fatal fault); from 1 to 0, but for reset, it is a `txbl` with nothing in view and makes one release there. -/
def Obligations.DrainHoldFollowsActive : Prop :=
  ∀ (x : Input) (s t : State), deliver x s = .next t → x ≠ .event .reset →
    (s.drActive = false → t.drActive = true →
      (s.holds s.drDepth.toNat ≠ s.cfg.hcMax ∧
          t.hc = s.hc.set s.drDepth.toNat (s.holds s.drDepth.toNat + 1)) ∨
        (s.holds s.drDepth.toNat = s.cfg.hcMax ∧ t.hc = s.hc ∧ s.halted = false ∧ t.fault = 1)) ∧
    (s.drActive = true → t.drActive = false →
      x = .event .txbl ∧ s.rd = s.wrSeen ∧
        ((0 < s.holds s.drDepth.toNat ∧ t.hc = s.hc.set s.drDepth.toNat (s.holds s.drDepth.toNat - 1)) ∨
          (s.holds s.drDepth.toNat = 0 ∧ t.hc = s.hc))) ∧
    (s.drActive = true → t.drDepth = s.drDepth)

/-! ## Register access -/

/-- Rules R41 to R71, R200: what `RDREG` answers for every readable register, halted or not; it changes nothing. At the `ISR`
port `ARB_CUR` reads 0, the command being a wake. -/
def Obligations.RdregAnswersEveryRegister : Prop :=
  ∀ s : State, (s.port = .bg ∨ s.port = .isr) →
    (∀ rv ∈ ([(0x00, BitVec.ofNat 32 (choose s)),
        (0x01, if s.port = .isr then 0 else BitVec.ofNat 32 s.restCur.toNat),
        (0x02, BitVec.ofNat 32 s.dblRelCnt.toNat),
        (0x20, BitVec.ofNat 32 s.rd), (0x21, BitVec.ofNat 32 s.wrSeen),
        (0x22, BitVec.ofNat 32 s.dropSeen.toNat), (0x23, BitVec.ofNat 32 s.cfg.rbSize),
        (0x30, BitVec.ofNat 32
          (s.run.toNat + 2 * (if s.tstate = .exciting then 1 else 0) + 4 * s.pol.toNat + 8 * s.polen.toNat)),
        (0x31, s.tfreq), (0x32, s.tratio), (0x33, s.tdur), (0x34, s.tfloor),
        (0x35, BitVec.ofNat 32 s.tcomp0), (0x36, BitVec.ofNat 32 s.tcomp1),
        (0x37, BitVec.ofNat 32 s.tpresc.toNat), (0x38, BitVec.ofNat 32 s.tcnt),
        (0x39, s.pidxA), (0x3A, s.pidxB), (0x3B, BitVec.ofNat 32 s.tmodn.toNat), (0x3C, s.trelmask),
        (0x3D, BitVec.ofNat 32 s.thdepth.toNat), (0x3E, BitVec.ofNat 32 s.tslot.toNat),
        (0x40, BitVec.ofNat 32 (s.drEn.toNat + 2 * s.drActive.toNat + 4 * s.drWait.toNat)),
        (0x41, BitVec.ofNat 32 s.drDepth.toNat), (0x42, s.txd),
        (0x50, BitVec.ofNat 32 s.iflags.toNat), (0x52, BitVec.ofNat 32 s.ien.toNat),
        (0x58, BitVec.ofNat 32 s.fault.toNat), (0x59, s.faultInfo)] : List (Byte × Word)),
      exec (.rdreg rv.1) s = .next (answered s s .ok rv.2)) ∧
    (∀ d : Nat, d < s.cfg.ndepth → d < 16 →
      exec (.rdreg (BitVec.ofNat 8 (16 + d))) s = .next (answered s s .ok (BitVec.ofNat 32 (s.holds d)))) ∧
    exec (.rdreg 0x51) s = .next (answered s s .illegal 0)

/-- Rules R201 to R203: what a legal `WRREG` of each writable register writes, with its lock open and its value in range; a
write of `DRCTRL` that arms nothing is here. -/
def Obligations.WrregWritesEveryRegister : Prop :=
  ∀ (s : State) (w : Word), (s.port = .bg ∨ s.port = .isr) → s.halted = false → s.cfg.timerW ≤ 32 →
    (s.run = false →
      (w.toNat = 0 ∨ w.toNat = 8 →
        exec (.wrreg 0x30 w) s = .next (answered s { s with polen := decide (w.toNat = 8) } .ok 0)) ∧
      exec (.wrreg 0x31 w) s = .next (answered s { s with tfreq := w } .ok 0) ∧
      exec (.wrreg 0x32 w) s = .next (answered s { s with tratio := w } .ok 0) ∧
      exec (.wrreg 0x33 w) s = .next (answered s { s with tdur := w } .ok 0) ∧
      exec (.wrreg 0x34 w) s = .next (answered s { s with tfloor := w } .ok 0) ∧
      (w.toNat < 2 ^ s.cfg.timerW →
        exec (.wrreg 0x35 w) s = .next (answered s { s with tcomp0 := w.toNat } .ok 0) ∧
        exec (.wrreg 0x36 w) s = .next (answered s { s with tcomp1 := w.toNat } .ok 0)) ∧
      (w.toNat ≤ s.cfg.prescMax → w.toNat ≤ 15 →
        exec (.wrreg 0x37 w) s = .next (answered s { s with tpresc := BitVec.ofNat 4 w.toNat } .ok 0)) ∧
      (1 ≤ w.toNat → w.toNat ≤ 32 →
        exec (.wrreg 0x3B w) s = .next (answered s { s with tmodn := BitVec.ofNat 6 w.toNat } .ok 0)) ∧
      exec (.wrreg 0x3C w) s = .next (answered s { s with trelmask := w } .ok 0) ∧
      (w.toNat < s.cfg.ndepth → w.toNat ≤ 15 →
        exec (.wrreg 0x3D w) s = .next (answered s { s with thdepth := BitVec.ofNat 4 w.toNat } .ok 0))) ∧
    (s.drActive = false →
      (w.toNat = 0 → exec (.wrreg 0x40 w) s = .next (answered s { s with drEn := false } .ok 0)) ∧
      (w.toNat = 1 → s.rd = s.wrSeen →
        exec (.wrreg 0x40 w) s = .next (answered s { s with drEn := true } .ok 0)) ∧
      (w.toNat < s.cfg.ndepth → w.toNat ≤ 15 →
        exec (.wrreg 0x41 w) s = .next (answered s { s with drDepth := BitVec.ofNat 4 w.toNat } .ok 0))) ∧
    (w.toNat ≤ 15 →
      exec (.wrreg 0x51 w) s =
        .next (answered s { s with iflags := s.iflags &&& ~~~(BitVec.ofNat 4 w.toNat) } .ok 0) ∧
      exec (.wrreg 0x52 w) s = .next (answered s { s with ien := BitVec.ofNat 4 w.toNat } .ok 0))

/-- Rules R191, R201, R203: the write that sets `DRCTRL.EN` with samples in view arms the unit at once; when that overflows the
hold counter the answer is `FAULTED`. -/
def Obligations.WrregEnableArmsDrainUnit : Prop :=
  ∀ s : State, (s.port = .bg ∨ s.port = .isr) → s.halted = false → s.drActive = false → s.rd ≠ s.wrSeen →
    (s.holds s.drDepth.toNat < s.cfg.hcMax →
      exec (.wrreg 0x40 1) s =
        .next (answered s
          { s with
            drEn := true
            hc := s.hc.set s.drDepth.toNat (s.holds s.drDepth.toNat + 1)
            drActive := true } .ok 0)) ∧
    (s.holds s.drDepth.toNat = s.cfg.hcMax →
      exec (.wrreg 0x40 1) s =
        .next (answered s
          { s with
            drEn := true
            fault := 1
            faultInfo := BitVec.ofNat 32 (256 * s.drDepth.toNat + 1)
            drActive := true } .faulted 0))

/-- Rule R202: a `WRREG` of a read-only register, with a 1 outside the register's mask, with a field out of range, or of a
locked register is `ILLEGAL` and changes nothing, not even the legal part of the word. -/
def Obligations.WrregRefusesIllegalWrites : Prop :=
  ∀ (s : State) (r : Byte) (w : Word), (s.port = .bg ∨ s.port = .isr) → s.halted = false →
    s.cfg.ndepth ≤ 16 →
    (r ∈ ([0x00, 0x01, 0x02, 0x20, 0x21, 0x22, 0x23, 0x38, 0x39, 0x3A, 0x3E, 0x42, 0x50, 0x58, 0x59] : List Byte) ∨
      (16 ≤ r.toNat ∧ r.toNat < 16 + s.cfg.ndepth) ∨
      (∃ m, (r, m) ∈ ([(0x30, 0x8), (0x35, BitVec.ofNat 32 (2 ^ s.cfg.timerW - 1)),
          (0x36, BitVec.ofNat 32 (2 ^ s.cfg.timerW - 1)), (0x37, 0xF), (0x3B, 0x3F), (0x3D, 0xF), (0x40, 0x1),
          (0x41, 0xF), (0x51, 0xF), (0x52, 0xF)] : List (Byte × Word)) ∧ w &&& ~~~m ≠ 0) ∨
      (r = 0x37 ∧ s.cfg.prescMax < w.toNat) ∨ (r = 0x3B ∧ (w.toNat = 0 ∨ 32 < w.toNat)) ∨
      ((r = 0x3D ∨ r = 0x41) ∧ s.cfg.ndepth ≤ w.toNat) ∨
      (s.run = true ∧
        r ∈ ([0x30, 0x31, 0x32, 0x33, 0x34, 0x35, 0x36, 0x37, 0x3B, 0x3C, 0x3D] : List Byte)) ∨
      (s.drActive = true ∧ (r = 0x40 ∨ r = 0x41))) →
    exec (.wrreg r w) s = .next (answered s s .illegal 0)

/-- Rules R68, R219: a step that clears an interrupt flag is a reset, or a `WRREG` of `IFC` with a 1 in that flag's bit. -/
def Obligations.FlagsClearedOnlyByIfc : Prop :=
  ∀ (x : Input) (s t : State) (b : Nat), deliver x s = .next t → s.iflags.getLsbD b = true →
    t.iflags.getLsbD b = false →
    x = .event .reset ∨
      ∃ p q w, x = .command p q ∧ (p = .bg ∨ p = .isr) ∧ decode q = .ok (.wrreg 0x51 w) ∧ w.getLsbD b = true

/-! ## Faults, outputs and reset -/

/-- Rules R35, R213, R214: once a fatal fault is recorded, no step but reset changes `FAULT` or `FAULTINFO`. -/
def Obligations.FirstFatalFaultStays : Prop :=
  ∀ (x : Input) (s t : State), deliver x s = .next t → s.halted = true → x ≠ .event .reset →
    t.fault = s.fault ∧ t.faultInfo = s.faultInfo

/-- Rule R12: the output trace only grows, but for reset, which empties it. -/
def Obligations.OutputTraceGrows : Prop :=
  ∀ (x : Input) (s t : State), deliver x s = .next t →
    (x ≠ .event .reset → ∃ new, t.out = s.out ++ new) ∧ (x = .event .reset → t.out = [])

/-- Rule R36: the level outputs, written out. -/
def Obligations.LevelOutputsFollowTheState : Prop :=
  ∀ s : State,
    (outputsOf s).nextDepth = BitVec.ofNat 4 (choose s) ∧ (outputsOf s).restDepth = s.restCur ∧
      ((outputsOf s).irq = true ↔ s.iflags &&& s.ien ≠ 0) ∧ ((outputsOf s).fatal = true ↔ s.fault ≠ 0) ∧
      ((outputsOf s).tState = true ↔ s.tstate = .exciting) ∧ (outputsOf s).pol = s.pol ∧
      (outputsOf s).slot = s.tslot ∧ (outputsOf s).txData = s.txd

/-- Rules R250, R251: reset writes every element to its reset value in one step, from any state. -/
def Obligations.ResetWritesEveryElement : Prop :=
  ∀ s : State, ∃ t, takeEvent .reset s = .next t ∧
    (t.hc = List.replicate s.cfg.ndepth 0 ∧ t.restCur = 0 ∧ t.dblRelCnt = 0) ∧
    (t.wr = 0 ∧ t.rd = 0 ∧ t.wrSeen = 0 ∧ t.rdSeen = 0 ∧ t.dropCnt = 0 ∧ t.dropSeen = 0) ∧
    (t.tfreq = 0 ∧ t.tratio = 0x00010000 ∧ t.tdur = 0 ∧ t.tfloor = 0 ∧ t.tcomp0 = 0 ∧ t.tcomp1 = 0 ∧
      t.tpresc = 0 ∧ t.tmodn = 3 ∧ t.trelmask = 0xFFFFFFFF ∧ t.thdepth = 0 ∧ t.polen = false) ∧
    (t.run = false ∧ t.tstate = .idle ∧ t.tcnt = 0 ∧ t.pdiv = 0 ∧ t.pidxA = 0 ∧ t.pidxB = 0 ∧ t.pol = false ∧
      t.tslot = 0) ∧
    (t.drEn = false ∧ t.drActive = false ∧ t.drWait = false ∧ t.drDepth = 0 ∧ t.txd = 0) ∧
    (t.iflags = 0 ∧ t.ien = 0 ∧ t.fault = 0 ∧ t.faultInfo = 0 ∧ t.out = []) ∧
    (0 < s.cfg.ndepth → choose t = s.cfg.ndepth - 1) ∧ t.irq = false ∧ t.halted = false

/-! ## Invariants -/

/-- The reset state meets the invariant, for every legal choice of the parameters; the choice in `State.reset` is the
model's, log entry 2. -/
def Obligations.ResetMeetsInvariant : Prop :=
  (∀ p : Params, p.Legal → CoreInv (State.resetWith p)) ∧ CoreInv State.reset

/-- Rules R21, R22, R221: the ranges of the hold counters and of the rest state are kept by every step, and after a step that
takes an input the processor rests only if no enabled flag is pending and the core is not halted (properties Q1, Q2). -/
def Obligations.StepKeepsArbiterInvariant : Prop :=
  ∀ s t : State, s.cfg.Legal → ArbiterInv s → RestInv s → step s = .next t → ArbiterInv t ∧ RestInv t

/-- Rule R28: the invariants of the ring buffer are kept by every step. -/
def Obligations.StepKeepsRingInvariant : Prop :=
  ∀ s t : State, s.cfg.Legal → RingInv s → step s = .next t → RingInv t

/-- Rules R57, R169: the counter range, the order of the compare values and the relation of the two period indices are kept
by every step (properties Q4, Q5). -/
def Obligations.StepKeepsTimerInvariant : Prop :=
  ∀ s t : State, s.cfg.Legal → TimerInv s → step s = .next t → TimerInv t

/-- Rules R190, R191, R196: the states of the drain unit and its arming are kept by every step (property Q6). -/
def Obligations.StepKeepsDrainInvariant : Prop :=
  ∀ s t : State, s.cfg.Legal → DrainInv s → step s = .next t → DrainInv t

/-- The invariant of the whole core is kept by every step. -/
def Obligations.StepKeepsInvariant : Prop :=
  ∀ s t : State, CoreInv s → step s = .next t → CoreInv t

/-- Rule R110 and property Q7: under the invariant every input has a next state, and so every step. -/
def Obligations.InvariantStatesNeverStop : Prop :=
  ∀ s : State, CoreInv s → (∀ x : Input, ∃ t, deliver x s = .next t) ∧ ∃ t, step s = .next t
end

