-- ==== Sys2Proof/Laws/Memory.lean ====
section
/-!
SUPPORT. The laws of the sample store: a read after a write, the canonical form that every write keeps, and what a store
lists after a write.
-/
namespace Sys2Proof.Machine

/-- A read after a write gives the value written in the slot written, and leaves every other slot. -/
theorem Memory.read?_write (m : Memory) (i j : Nat) (v : Word) :
    (m.write i v).read? j = if j = i then some v else m.read? j := by
  induction m with
  | nil => simp [Memory.write, Memory.read?, eq_comm]
  | cons c m ih =>
    obtain ⟨k, w⟩ := c
    simp only [Memory.write]
    split
    · by_cases h : j = i
      · subst h; simp [Memory.read?]
      · simp [Memory.read?, h, Ne.symm h]
    · split
      · next hk =>
        subst hk
        by_cases h : j = i
        · subst h; simp [Memory.read?]
        · simp [Memory.read?, h, Ne.symm h]
      · next h1 h2 =>
        simp only [Memory.read?, ih]
        by_cases h : k = j
        · subst h; simp [Ne.symm h2]
        · simp [h]

/-- What a store lists after a write was listed before, or is the entry written. -/
theorem Memory.mem_write {m : Memory} {i : Nat} {v : Word} {c : Nat × Word} (h : c ∈ m.write i v) :
    c = (i, v) ∨ c ∈ m := by
  induction m with
  | nil => exact .inl (by simpa [Memory.write] using h)
  | cons d m ih =>
    obtain ⟨k, w⟩ := d
    simp only [Memory.write] at h
    split at h
    · simpa using h
    · split at h
      · rcases List.mem_cons.mp h with h | h
        · exact .inl h
        · exact .inr (List.mem_cons_of_mem _ h)
      · rcases List.mem_cons.mp h with h | h
        · exact .inr (h ▸ List.mem_cons_self)
        · exact (ih h).imp id (List.mem_cons_of_mem _)

/-- A write keeps the canonical form. -/
theorem Memory.wf_write {m : Memory} (h : m.wf) (i : Nat) (v : Word) : (m.write i v).wf := by
  induction m with
  | nil => simp [Memory.write, Memory.wf]
  | cons c m ih =>
    obtain ⟨k, w⟩ := c
    obtain ⟨hk, hm⟩ := List.pairwise_cons.mp h
    simp only [Memory.write]
    split
    · next hi =>
      refine List.pairwise_cons.mpr ⟨fun c hc => ?_, h⟩
      rcases List.mem_cons.mp hc with rfl | hc
      · exact hi
      · exact Nat.lt_trans hi (hk c hc)
    · split
      · next hi => subst hi; exact List.pairwise_cons.mpr ⟨hk, hm⟩
      · refine List.pairwise_cons.mpr ⟨fun c hc => ?_, ih hm⟩
        rcases Memory.mem_write hc with rfl | hc
        · show k < i
          omega
        · exact hk c hc

/-- The store of the reset state is in canonical form. -/
theorem resetWith_buf_wf (p : Params) : (State.resetWith p).buf.wf := List.Pairwise.nil

/-- A listed slot is read from the list. -/
theorem Memory.mem_of_read? {m : Memory} {i : Nat} {v : Word} (h : m.read? i = some v) : (i, v) ∈ m := by
  induction m with
  | nil => simp [Memory.read?] at h
  | cons c m ih =>
    obtain ⟨k, w⟩ := c
    simp only [Memory.read?] at h
    split at h
    · next hk => simp_all
    · exact List.mem_cons_of_mem _ (ih h)

/-- A sample fits `SAMPLE_W` bits. -/
theorem sampleOf_lt (p : Params) (w : Word) : (sampleOf p w).toNat < 2 ^ p.sampleW := by
  rw [sampleOf, BitVec.toNat_ofNat]
  exact Nat.lt_of_le_of_lt (Nat.mod_le _ _) (Nat.mod_lt _ (Nat.two_pow_pos _))

/-- What a read gives in terms of the list: the value listed, or some sample of `SAMPLE_W` bits. -/
theorem memRead_cases (i : Nat) (s : State) :
    s.buf.read? i = some (memRead i s) ∨ (s.buf.read? i = none ∧ (memRead i s).toNat < 2 ^ s.cfg.sampleW) := by
  unfold memRead
  cases h : s.buf.read? i with
  | some v => exact .inl rfl
  | none => exact .inr ⟨rfl, sampleOf_lt _ _⟩

end Sys2Proof.Machine
end

