-- ==== Sys2Proof/Laws/State.lean ====
section
/-!
SUPPORT. The small lemmas of the named updates of State: for each update and each field, what the field is afterwards. The
fields an update leaves come first, the fields it writes after them.
-/
namespace Sys2Proof.Machine

/-! ## settle -/

@[simp] theorem settle_cfg (s : State) : (settle s).cfg = s.cfg := rfl
@[simp] theorem settle_hc (s : State) : (settle s).hc = s.hc := rfl
@[simp] theorem settle_dblRelCnt (s : State) : (settle s).dblRelCnt = s.dblRelCnt := rfl
@[simp] theorem settle_buf (s : State) : (settle s).buf = s.buf := rfl
@[simp] theorem settle_wr (s : State) : (settle s).wr = s.wr := rfl
@[simp] theorem settle_rd (s : State) : (settle s).rd = s.rd := rfl
@[simp] theorem settle_wrSeen (s : State) : (settle s).wrSeen = s.wrSeen := rfl
@[simp] theorem settle_rdSeen (s : State) : (settle s).rdSeen = s.rdSeen := rfl
@[simp] theorem settle_dropCnt (s : State) : (settle s).dropCnt = s.dropCnt := rfl
@[simp] theorem settle_dropSeen (s : State) : (settle s).dropSeen = s.dropSeen := rfl
@[simp] theorem settle_tfreq (s : State) : (settle s).tfreq = s.tfreq := rfl
@[simp] theorem settle_tratio (s : State) : (settle s).tratio = s.tratio := rfl
@[simp] theorem settle_tdur (s : State) : (settle s).tdur = s.tdur := rfl
@[simp] theorem settle_tfloor (s : State) : (settle s).tfloor = s.tfloor := rfl
@[simp] theorem settle_tcomp0 (s : State) : (settle s).tcomp0 = s.tcomp0 := rfl
@[simp] theorem settle_tcomp1 (s : State) : (settle s).tcomp1 = s.tcomp1 := rfl
@[simp] theorem settle_tpresc (s : State) : (settle s).tpresc = s.tpresc := rfl
@[simp] theorem settle_tmodn (s : State) : (settle s).tmodn = s.tmodn := rfl
@[simp] theorem settle_trelmask (s : State) : (settle s).trelmask = s.trelmask := rfl
@[simp] theorem settle_thdepth (s : State) : (settle s).thdepth = s.thdepth := rfl
@[simp] theorem settle_polen (s : State) : (settle s).polen = s.polen := rfl
@[simp] theorem settle_run (s : State) : (settle s).run = s.run := rfl
@[simp] theorem settle_tstate (s : State) : (settle s).tstate = s.tstate := rfl
@[simp] theorem settle_tcnt (s : State) : (settle s).tcnt = s.tcnt := rfl
@[simp] theorem settle_pdiv (s : State) : (settle s).pdiv = s.pdiv := rfl
@[simp] theorem settle_pidxA (s : State) : (settle s).pidxA = s.pidxA := rfl
@[simp] theorem settle_pidxB (s : State) : (settle s).pidxB = s.pidxB := rfl
@[simp] theorem settle_pol (s : State) : (settle s).pol = s.pol := rfl
@[simp] theorem settle_tslot (s : State) : (settle s).tslot = s.tslot := rfl
@[simp] theorem settle_drEn (s : State) : (settle s).drEn = s.drEn := rfl
@[simp] theorem settle_drActive (s : State) : (settle s).drActive = s.drActive := rfl
@[simp] theorem settle_drWait (s : State) : (settle s).drWait = s.drWait := rfl
@[simp] theorem settle_drDepth (s : State) : (settle s).drDepth = s.drDepth := rfl
@[simp] theorem settle_txd (s : State) : (settle s).txd = s.txd := rfl
@[simp] theorem settle_iflags (s : State) : (settle s).iflags = s.iflags := rfl
@[simp] theorem settle_ien (s : State) : (settle s).ien = s.ien := rfl
@[simp] theorem settle_fault (s : State) : (settle s).fault = s.fault := rfl
@[simp] theorem settle_faultInfo (s : State) : (settle s).faultInfo = s.faultInfo := rfl
@[simp] theorem settle_out (s : State) : (settle s).out = s.out := rfl
@[simp] theorem settle_inputs (s : State) : (settle s).inputs = s.inputs := rfl
@[simp] theorem settle_port (s : State) : (settle s).port = s.port := rfl
@[simp] theorem settle_resp (s : State) : (settle s).resp = s.resp := rfl
@[simp] theorem settle_powerUps (s : State) : (settle s).powerUps = s.powerUps := rfl

/-! ## setFlag -/

@[simp] theorem setFlag_cfg (b : BitVec 4) (s : State) : (setFlag b s).cfg = s.cfg := rfl
@[simp] theorem setFlag_hc (b : BitVec 4) (s : State) : (setFlag b s).hc = s.hc := rfl
@[simp] theorem setFlag_restCur (b : BitVec 4) (s : State) : (setFlag b s).restCur = s.restCur := rfl
@[simp] theorem setFlag_dblRelCnt (b : BitVec 4) (s : State) : (setFlag b s).dblRelCnt = s.dblRelCnt := rfl
@[simp] theorem setFlag_buf (b : BitVec 4) (s : State) : (setFlag b s).buf = s.buf := rfl
@[simp] theorem setFlag_wr (b : BitVec 4) (s : State) : (setFlag b s).wr = s.wr := rfl
@[simp] theorem setFlag_rd (b : BitVec 4) (s : State) : (setFlag b s).rd = s.rd := rfl
@[simp] theorem setFlag_wrSeen (b : BitVec 4) (s : State) : (setFlag b s).wrSeen = s.wrSeen := rfl
@[simp] theorem setFlag_rdSeen (b : BitVec 4) (s : State) : (setFlag b s).rdSeen = s.rdSeen := rfl
@[simp] theorem setFlag_dropCnt (b : BitVec 4) (s : State) : (setFlag b s).dropCnt = s.dropCnt := rfl
@[simp] theorem setFlag_dropSeen (b : BitVec 4) (s : State) : (setFlag b s).dropSeen = s.dropSeen := rfl
@[simp] theorem setFlag_tfreq (b : BitVec 4) (s : State) : (setFlag b s).tfreq = s.tfreq := rfl
@[simp] theorem setFlag_tratio (b : BitVec 4) (s : State) : (setFlag b s).tratio = s.tratio := rfl
@[simp] theorem setFlag_tdur (b : BitVec 4) (s : State) : (setFlag b s).tdur = s.tdur := rfl
@[simp] theorem setFlag_tfloor (b : BitVec 4) (s : State) : (setFlag b s).tfloor = s.tfloor := rfl
@[simp] theorem setFlag_tcomp0 (b : BitVec 4) (s : State) : (setFlag b s).tcomp0 = s.tcomp0 := rfl
@[simp] theorem setFlag_tcomp1 (b : BitVec 4) (s : State) : (setFlag b s).tcomp1 = s.tcomp1 := rfl
@[simp] theorem setFlag_tpresc (b : BitVec 4) (s : State) : (setFlag b s).tpresc = s.tpresc := rfl
@[simp] theorem setFlag_tmodn (b : BitVec 4) (s : State) : (setFlag b s).tmodn = s.tmodn := rfl
@[simp] theorem setFlag_trelmask (b : BitVec 4) (s : State) : (setFlag b s).trelmask = s.trelmask := rfl
@[simp] theorem setFlag_thdepth (b : BitVec 4) (s : State) : (setFlag b s).thdepth = s.thdepth := rfl
@[simp] theorem setFlag_polen (b : BitVec 4) (s : State) : (setFlag b s).polen = s.polen := rfl
@[simp] theorem setFlag_run (b : BitVec 4) (s : State) : (setFlag b s).run = s.run := rfl
@[simp] theorem setFlag_tstate (b : BitVec 4) (s : State) : (setFlag b s).tstate = s.tstate := rfl
@[simp] theorem setFlag_tcnt (b : BitVec 4) (s : State) : (setFlag b s).tcnt = s.tcnt := rfl
@[simp] theorem setFlag_pdiv (b : BitVec 4) (s : State) : (setFlag b s).pdiv = s.pdiv := rfl
@[simp] theorem setFlag_pidxA (b : BitVec 4) (s : State) : (setFlag b s).pidxA = s.pidxA := rfl
@[simp] theorem setFlag_pidxB (b : BitVec 4) (s : State) : (setFlag b s).pidxB = s.pidxB := rfl
@[simp] theorem setFlag_pol (b : BitVec 4) (s : State) : (setFlag b s).pol = s.pol := rfl
@[simp] theorem setFlag_tslot (b : BitVec 4) (s : State) : (setFlag b s).tslot = s.tslot := rfl
@[simp] theorem setFlag_drEn (b : BitVec 4) (s : State) : (setFlag b s).drEn = s.drEn := rfl
@[simp] theorem setFlag_drActive (b : BitVec 4) (s : State) : (setFlag b s).drActive = s.drActive := rfl
@[simp] theorem setFlag_drWait (b : BitVec 4) (s : State) : (setFlag b s).drWait = s.drWait := rfl
@[simp] theorem setFlag_drDepth (b : BitVec 4) (s : State) : (setFlag b s).drDepth = s.drDepth := rfl
@[simp] theorem setFlag_txd (b : BitVec 4) (s : State) : (setFlag b s).txd = s.txd := rfl
@[simp] theorem setFlag_ien (b : BitVec 4) (s : State) : (setFlag b s).ien = s.ien := rfl
@[simp] theorem setFlag_fault (b : BitVec 4) (s : State) : (setFlag b s).fault = s.fault := rfl
@[simp] theorem setFlag_faultInfo (b : BitVec 4) (s : State) : (setFlag b s).faultInfo = s.faultInfo := rfl
@[simp] theorem setFlag_out (b : BitVec 4) (s : State) : (setFlag b s).out = s.out := rfl
@[simp] theorem setFlag_inputs (b : BitVec 4) (s : State) : (setFlag b s).inputs = s.inputs := rfl
@[simp] theorem setFlag_port (b : BitVec 4) (s : State) : (setFlag b s).port = s.port := rfl
@[simp] theorem setFlag_resp (b : BitVec 4) (s : State) : (setFlag b s).resp = s.resp := rfl
@[simp] theorem setFlag_powerUps (b : BitVec 4) (s : State) : (setFlag b s).powerUps = s.powerUps := rfl

/-! ## clearFlags -/

@[simp] theorem clearFlags_cfg (m : BitVec 4) (s : State) : (clearFlags m s).cfg = s.cfg := rfl
@[simp] theorem clearFlags_hc (m : BitVec 4) (s : State) : (clearFlags m s).hc = s.hc := rfl
@[simp] theorem clearFlags_restCur (m : BitVec 4) (s : State) : (clearFlags m s).restCur = s.restCur := rfl
@[simp] theorem clearFlags_dblRelCnt (m : BitVec 4) (s : State) : (clearFlags m s).dblRelCnt = s.dblRelCnt := rfl
@[simp] theorem clearFlags_buf (m : BitVec 4) (s : State) : (clearFlags m s).buf = s.buf := rfl
@[simp] theorem clearFlags_wr (m : BitVec 4) (s : State) : (clearFlags m s).wr = s.wr := rfl
@[simp] theorem clearFlags_rd (m : BitVec 4) (s : State) : (clearFlags m s).rd = s.rd := rfl
@[simp] theorem clearFlags_wrSeen (m : BitVec 4) (s : State) : (clearFlags m s).wrSeen = s.wrSeen := rfl
@[simp] theorem clearFlags_rdSeen (m : BitVec 4) (s : State) : (clearFlags m s).rdSeen = s.rdSeen := rfl
@[simp] theorem clearFlags_dropCnt (m : BitVec 4) (s : State) : (clearFlags m s).dropCnt = s.dropCnt := rfl
@[simp] theorem clearFlags_dropSeen (m : BitVec 4) (s : State) : (clearFlags m s).dropSeen = s.dropSeen := rfl
@[simp] theorem clearFlags_tfreq (m : BitVec 4) (s : State) : (clearFlags m s).tfreq = s.tfreq := rfl
@[simp] theorem clearFlags_tratio (m : BitVec 4) (s : State) : (clearFlags m s).tratio = s.tratio := rfl
@[simp] theorem clearFlags_tdur (m : BitVec 4) (s : State) : (clearFlags m s).tdur = s.tdur := rfl
@[simp] theorem clearFlags_tfloor (m : BitVec 4) (s : State) : (clearFlags m s).tfloor = s.tfloor := rfl
@[simp] theorem clearFlags_tcomp0 (m : BitVec 4) (s : State) : (clearFlags m s).tcomp0 = s.tcomp0 := rfl
@[simp] theorem clearFlags_tcomp1 (m : BitVec 4) (s : State) : (clearFlags m s).tcomp1 = s.tcomp1 := rfl
@[simp] theorem clearFlags_tpresc (m : BitVec 4) (s : State) : (clearFlags m s).tpresc = s.tpresc := rfl
@[simp] theorem clearFlags_tmodn (m : BitVec 4) (s : State) : (clearFlags m s).tmodn = s.tmodn := rfl
@[simp] theorem clearFlags_trelmask (m : BitVec 4) (s : State) : (clearFlags m s).trelmask = s.trelmask := rfl
@[simp] theorem clearFlags_thdepth (m : BitVec 4) (s : State) : (clearFlags m s).thdepth = s.thdepth := rfl
@[simp] theorem clearFlags_polen (m : BitVec 4) (s : State) : (clearFlags m s).polen = s.polen := rfl
@[simp] theorem clearFlags_run (m : BitVec 4) (s : State) : (clearFlags m s).run = s.run := rfl
@[simp] theorem clearFlags_tstate (m : BitVec 4) (s : State) : (clearFlags m s).tstate = s.tstate := rfl
@[simp] theorem clearFlags_tcnt (m : BitVec 4) (s : State) : (clearFlags m s).tcnt = s.tcnt := rfl
@[simp] theorem clearFlags_pdiv (m : BitVec 4) (s : State) : (clearFlags m s).pdiv = s.pdiv := rfl
@[simp] theorem clearFlags_pidxA (m : BitVec 4) (s : State) : (clearFlags m s).pidxA = s.pidxA := rfl
@[simp] theorem clearFlags_pidxB (m : BitVec 4) (s : State) : (clearFlags m s).pidxB = s.pidxB := rfl
@[simp] theorem clearFlags_pol (m : BitVec 4) (s : State) : (clearFlags m s).pol = s.pol := rfl
@[simp] theorem clearFlags_tslot (m : BitVec 4) (s : State) : (clearFlags m s).tslot = s.tslot := rfl
@[simp] theorem clearFlags_drEn (m : BitVec 4) (s : State) : (clearFlags m s).drEn = s.drEn := rfl
@[simp] theorem clearFlags_drActive (m : BitVec 4) (s : State) : (clearFlags m s).drActive = s.drActive := rfl
@[simp] theorem clearFlags_drWait (m : BitVec 4) (s : State) : (clearFlags m s).drWait = s.drWait := rfl
@[simp] theorem clearFlags_drDepth (m : BitVec 4) (s : State) : (clearFlags m s).drDepth = s.drDepth := rfl
@[simp] theorem clearFlags_txd (m : BitVec 4) (s : State) : (clearFlags m s).txd = s.txd := rfl
@[simp] theorem clearFlags_ien (m : BitVec 4) (s : State) : (clearFlags m s).ien = s.ien := rfl
@[simp] theorem clearFlags_fault (m : BitVec 4) (s : State) : (clearFlags m s).fault = s.fault := rfl
@[simp] theorem clearFlags_faultInfo (m : BitVec 4) (s : State) : (clearFlags m s).faultInfo = s.faultInfo := rfl
@[simp] theorem clearFlags_out (m : BitVec 4) (s : State) : (clearFlags m s).out = s.out := rfl
@[simp] theorem clearFlags_inputs (m : BitVec 4) (s : State) : (clearFlags m s).inputs = s.inputs := rfl
@[simp] theorem clearFlags_port (m : BitVec 4) (s : State) : (clearFlags m s).port = s.port := rfl
@[simp] theorem clearFlags_resp (m : BitVec 4) (s : State) : (clearFlags m s).resp = s.resp := rfl
@[simp] theorem clearFlags_powerUps (m : BitVec 4) (s : State) : (clearFlags m s).powerUps = s.powerUps := rfl

/-! ## respond -/

@[simp] theorem respond_cfg (st : Status) (d : Word) (s : State) : (respond st d s).cfg = s.cfg := rfl
@[simp] theorem respond_hc (st : Status) (d : Word) (s : State) : (respond st d s).hc = s.hc := rfl
@[simp] theorem respond_restCur (st : Status) (d : Word) (s : State) : (respond st d s).restCur = s.restCur := rfl
@[simp] theorem respond_dblRelCnt (st : Status) (d : Word) (s : State) : (respond st d s).dblRelCnt = s.dblRelCnt := rfl
@[simp] theorem respond_buf (st : Status) (d : Word) (s : State) : (respond st d s).buf = s.buf := rfl
@[simp] theorem respond_wr (st : Status) (d : Word) (s : State) : (respond st d s).wr = s.wr := rfl
@[simp] theorem respond_rd (st : Status) (d : Word) (s : State) : (respond st d s).rd = s.rd := rfl
@[simp] theorem respond_wrSeen (st : Status) (d : Word) (s : State) : (respond st d s).wrSeen = s.wrSeen := rfl
@[simp] theorem respond_rdSeen (st : Status) (d : Word) (s : State) : (respond st d s).rdSeen = s.rdSeen := rfl
@[simp] theorem respond_dropCnt (st : Status) (d : Word) (s : State) : (respond st d s).dropCnt = s.dropCnt := rfl
@[simp] theorem respond_dropSeen (st : Status) (d : Word) (s : State) : (respond st d s).dropSeen = s.dropSeen := rfl
@[simp] theorem respond_tfreq (st : Status) (d : Word) (s : State) : (respond st d s).tfreq = s.tfreq := rfl
@[simp] theorem respond_tratio (st : Status) (d : Word) (s : State) : (respond st d s).tratio = s.tratio := rfl
@[simp] theorem respond_tdur (st : Status) (d : Word) (s : State) : (respond st d s).tdur = s.tdur := rfl
@[simp] theorem respond_tfloor (st : Status) (d : Word) (s : State) : (respond st d s).tfloor = s.tfloor := rfl
@[simp] theorem respond_tcomp0 (st : Status) (d : Word) (s : State) : (respond st d s).tcomp0 = s.tcomp0 := rfl
@[simp] theorem respond_tcomp1 (st : Status) (d : Word) (s : State) : (respond st d s).tcomp1 = s.tcomp1 := rfl
@[simp] theorem respond_tpresc (st : Status) (d : Word) (s : State) : (respond st d s).tpresc = s.tpresc := rfl
@[simp] theorem respond_tmodn (st : Status) (d : Word) (s : State) : (respond st d s).tmodn = s.tmodn := rfl
@[simp] theorem respond_trelmask (st : Status) (d : Word) (s : State) : (respond st d s).trelmask = s.trelmask := rfl
@[simp] theorem respond_thdepth (st : Status) (d : Word) (s : State) : (respond st d s).thdepth = s.thdepth := rfl
@[simp] theorem respond_polen (st : Status) (d : Word) (s : State) : (respond st d s).polen = s.polen := rfl
@[simp] theorem respond_run (st : Status) (d : Word) (s : State) : (respond st d s).run = s.run := rfl
@[simp] theorem respond_tstate (st : Status) (d : Word) (s : State) : (respond st d s).tstate = s.tstate := rfl
@[simp] theorem respond_tcnt (st : Status) (d : Word) (s : State) : (respond st d s).tcnt = s.tcnt := rfl
@[simp] theorem respond_pdiv (st : Status) (d : Word) (s : State) : (respond st d s).pdiv = s.pdiv := rfl
@[simp] theorem respond_pidxA (st : Status) (d : Word) (s : State) : (respond st d s).pidxA = s.pidxA := rfl
@[simp] theorem respond_pidxB (st : Status) (d : Word) (s : State) : (respond st d s).pidxB = s.pidxB := rfl
@[simp] theorem respond_pol (st : Status) (d : Word) (s : State) : (respond st d s).pol = s.pol := rfl
@[simp] theorem respond_tslot (st : Status) (d : Word) (s : State) : (respond st d s).tslot = s.tslot := rfl
@[simp] theorem respond_drEn (st : Status) (d : Word) (s : State) : (respond st d s).drEn = s.drEn := rfl
@[simp] theorem respond_drActive (st : Status) (d : Word) (s : State) : (respond st d s).drActive = s.drActive := rfl
@[simp] theorem respond_drWait (st : Status) (d : Word) (s : State) : (respond st d s).drWait = s.drWait := rfl
@[simp] theorem respond_drDepth (st : Status) (d : Word) (s : State) : (respond st d s).drDepth = s.drDepth := rfl
@[simp] theorem respond_txd (st : Status) (d : Word) (s : State) : (respond st d s).txd = s.txd := rfl
@[simp] theorem respond_iflags (st : Status) (d : Word) (s : State) : (respond st d s).iflags = s.iflags := rfl
@[simp] theorem respond_ien (st : Status) (d : Word) (s : State) : (respond st d s).ien = s.ien := rfl
@[simp] theorem respond_fault (st : Status) (d : Word) (s : State) : (respond st d s).fault = s.fault := rfl
@[simp] theorem respond_faultInfo (st : Status) (d : Word) (s : State) : (respond st d s).faultInfo = s.faultInfo := rfl
@[simp] theorem respond_out (st : Status) (d : Word) (s : State) : (respond st d s).out = s.out := rfl
@[simp] theorem respond_inputs (st : Status) (d : Word) (s : State) : (respond st d s).inputs = s.inputs := rfl
@[simp] theorem respond_port (st : Status) (d : Word) (s : State) : (respond st d s).port = s.port := rfl
@[simp] theorem respond_powerUps (st : Status) (d : Word) (s : State) : (respond st d s).powerUps = s.powerUps := rfl

/-! ## wakeAtIsr -/

@[simp] theorem wakeAtIsr_cfg (s : State) : (wakeAtIsr s).cfg = s.cfg := rfl
@[simp] theorem wakeAtIsr_hc (s : State) : (wakeAtIsr s).hc = s.hc := rfl
@[simp] theorem wakeAtIsr_dblRelCnt (s : State) : (wakeAtIsr s).dblRelCnt = s.dblRelCnt := rfl
@[simp] theorem wakeAtIsr_buf (s : State) : (wakeAtIsr s).buf = s.buf := rfl
@[simp] theorem wakeAtIsr_wr (s : State) : (wakeAtIsr s).wr = s.wr := rfl
@[simp] theorem wakeAtIsr_rd (s : State) : (wakeAtIsr s).rd = s.rd := rfl
@[simp] theorem wakeAtIsr_wrSeen (s : State) : (wakeAtIsr s).wrSeen = s.wrSeen := rfl
@[simp] theorem wakeAtIsr_rdSeen (s : State) : (wakeAtIsr s).rdSeen = s.rdSeen := rfl
@[simp] theorem wakeAtIsr_dropCnt (s : State) : (wakeAtIsr s).dropCnt = s.dropCnt := rfl
@[simp] theorem wakeAtIsr_dropSeen (s : State) : (wakeAtIsr s).dropSeen = s.dropSeen := rfl
@[simp] theorem wakeAtIsr_tfreq (s : State) : (wakeAtIsr s).tfreq = s.tfreq := rfl
@[simp] theorem wakeAtIsr_tratio (s : State) : (wakeAtIsr s).tratio = s.tratio := rfl
@[simp] theorem wakeAtIsr_tdur (s : State) : (wakeAtIsr s).tdur = s.tdur := rfl
@[simp] theorem wakeAtIsr_tfloor (s : State) : (wakeAtIsr s).tfloor = s.tfloor := rfl
@[simp] theorem wakeAtIsr_tcomp0 (s : State) : (wakeAtIsr s).tcomp0 = s.tcomp0 := rfl
@[simp] theorem wakeAtIsr_tcomp1 (s : State) : (wakeAtIsr s).tcomp1 = s.tcomp1 := rfl
@[simp] theorem wakeAtIsr_tpresc (s : State) : (wakeAtIsr s).tpresc = s.tpresc := rfl
@[simp] theorem wakeAtIsr_tmodn (s : State) : (wakeAtIsr s).tmodn = s.tmodn := rfl
@[simp] theorem wakeAtIsr_trelmask (s : State) : (wakeAtIsr s).trelmask = s.trelmask := rfl
@[simp] theorem wakeAtIsr_thdepth (s : State) : (wakeAtIsr s).thdepth = s.thdepth := rfl
@[simp] theorem wakeAtIsr_polen (s : State) : (wakeAtIsr s).polen = s.polen := rfl
@[simp] theorem wakeAtIsr_run (s : State) : (wakeAtIsr s).run = s.run := rfl
@[simp] theorem wakeAtIsr_tstate (s : State) : (wakeAtIsr s).tstate = s.tstate := rfl
@[simp] theorem wakeAtIsr_tcnt (s : State) : (wakeAtIsr s).tcnt = s.tcnt := rfl
@[simp] theorem wakeAtIsr_pdiv (s : State) : (wakeAtIsr s).pdiv = s.pdiv := rfl
@[simp] theorem wakeAtIsr_pidxA (s : State) : (wakeAtIsr s).pidxA = s.pidxA := rfl
@[simp] theorem wakeAtIsr_pidxB (s : State) : (wakeAtIsr s).pidxB = s.pidxB := rfl
@[simp] theorem wakeAtIsr_pol (s : State) : (wakeAtIsr s).pol = s.pol := rfl
@[simp] theorem wakeAtIsr_tslot (s : State) : (wakeAtIsr s).tslot = s.tslot := rfl
@[simp] theorem wakeAtIsr_drEn (s : State) : (wakeAtIsr s).drEn = s.drEn := rfl
@[simp] theorem wakeAtIsr_drActive (s : State) : (wakeAtIsr s).drActive = s.drActive := rfl
@[simp] theorem wakeAtIsr_drWait (s : State) : (wakeAtIsr s).drWait = s.drWait := rfl
@[simp] theorem wakeAtIsr_drDepth (s : State) : (wakeAtIsr s).drDepth = s.drDepth := rfl
@[simp] theorem wakeAtIsr_txd (s : State) : (wakeAtIsr s).txd = s.txd := rfl
@[simp] theorem wakeAtIsr_iflags (s : State) : (wakeAtIsr s).iflags = s.iflags := rfl
@[simp] theorem wakeAtIsr_ien (s : State) : (wakeAtIsr s).ien = s.ien := rfl
@[simp] theorem wakeAtIsr_fault (s : State) : (wakeAtIsr s).fault = s.fault := rfl
@[simp] theorem wakeAtIsr_faultInfo (s : State) : (wakeAtIsr s).faultInfo = s.faultInfo := rfl
@[simp] theorem wakeAtIsr_out (s : State) : (wakeAtIsr s).out = s.out := rfl
@[simp] theorem wakeAtIsr_inputs (s : State) : (wakeAtIsr s).inputs = s.inputs := rfl
@[simp] theorem wakeAtIsr_port (s : State) : (wakeAtIsr s).port = s.port := rfl
@[simp] theorem wakeAtIsr_resp (s : State) : (wakeAtIsr s).resp = s.resp := rfl
@[simp] theorem wakeAtIsr_powerUps (s : State) : (wakeAtIsr s).powerUps = s.powerUps := rfl

/-! ## acceptAt -/

@[simp] theorem acceptAt_cfg (p : Port) (s : State) : (acceptAt p s).cfg = s.cfg := rfl
@[simp] theorem acceptAt_hc (p : Port) (s : State) : (acceptAt p s).hc = s.hc := rfl
@[simp] theorem acceptAt_restCur (p : Port) (s : State) : (acceptAt p s).restCur = s.restCur := rfl
@[simp] theorem acceptAt_dblRelCnt (p : Port) (s : State) : (acceptAt p s).dblRelCnt = s.dblRelCnt := rfl
@[simp] theorem acceptAt_buf (p : Port) (s : State) : (acceptAt p s).buf = s.buf := rfl
@[simp] theorem acceptAt_wr (p : Port) (s : State) : (acceptAt p s).wr = s.wr := rfl
@[simp] theorem acceptAt_rd (p : Port) (s : State) : (acceptAt p s).rd = s.rd := rfl
@[simp] theorem acceptAt_wrSeen (p : Port) (s : State) : (acceptAt p s).wrSeen = s.wrSeen := rfl
@[simp] theorem acceptAt_rdSeen (p : Port) (s : State) : (acceptAt p s).rdSeen = s.rdSeen := rfl
@[simp] theorem acceptAt_dropCnt (p : Port) (s : State) : (acceptAt p s).dropCnt = s.dropCnt := rfl
@[simp] theorem acceptAt_dropSeen (p : Port) (s : State) : (acceptAt p s).dropSeen = s.dropSeen := rfl
@[simp] theorem acceptAt_tfreq (p : Port) (s : State) : (acceptAt p s).tfreq = s.tfreq := rfl
@[simp] theorem acceptAt_tratio (p : Port) (s : State) : (acceptAt p s).tratio = s.tratio := rfl
@[simp] theorem acceptAt_tdur (p : Port) (s : State) : (acceptAt p s).tdur = s.tdur := rfl
@[simp] theorem acceptAt_tfloor (p : Port) (s : State) : (acceptAt p s).tfloor = s.tfloor := rfl
@[simp] theorem acceptAt_tcomp0 (p : Port) (s : State) : (acceptAt p s).tcomp0 = s.tcomp0 := rfl
@[simp] theorem acceptAt_tcomp1 (p : Port) (s : State) : (acceptAt p s).tcomp1 = s.tcomp1 := rfl
@[simp] theorem acceptAt_tpresc (p : Port) (s : State) : (acceptAt p s).tpresc = s.tpresc := rfl
@[simp] theorem acceptAt_tmodn (p : Port) (s : State) : (acceptAt p s).tmodn = s.tmodn := rfl
@[simp] theorem acceptAt_trelmask (p : Port) (s : State) : (acceptAt p s).trelmask = s.trelmask := rfl
@[simp] theorem acceptAt_thdepth (p : Port) (s : State) : (acceptAt p s).thdepth = s.thdepth := rfl
@[simp] theorem acceptAt_polen (p : Port) (s : State) : (acceptAt p s).polen = s.polen := rfl
@[simp] theorem acceptAt_run (p : Port) (s : State) : (acceptAt p s).run = s.run := rfl
@[simp] theorem acceptAt_tstate (p : Port) (s : State) : (acceptAt p s).tstate = s.tstate := rfl
@[simp] theorem acceptAt_tcnt (p : Port) (s : State) : (acceptAt p s).tcnt = s.tcnt := rfl
@[simp] theorem acceptAt_pdiv (p : Port) (s : State) : (acceptAt p s).pdiv = s.pdiv := rfl
@[simp] theorem acceptAt_pidxA (p : Port) (s : State) : (acceptAt p s).pidxA = s.pidxA := rfl
@[simp] theorem acceptAt_pidxB (p : Port) (s : State) : (acceptAt p s).pidxB = s.pidxB := rfl
@[simp] theorem acceptAt_pol (p : Port) (s : State) : (acceptAt p s).pol = s.pol := rfl
@[simp] theorem acceptAt_tslot (p : Port) (s : State) : (acceptAt p s).tslot = s.tslot := rfl
@[simp] theorem acceptAt_drEn (p : Port) (s : State) : (acceptAt p s).drEn = s.drEn := rfl
@[simp] theorem acceptAt_drActive (p : Port) (s : State) : (acceptAt p s).drActive = s.drActive := rfl
@[simp] theorem acceptAt_drWait (p : Port) (s : State) : (acceptAt p s).drWait = s.drWait := rfl
@[simp] theorem acceptAt_drDepth (p : Port) (s : State) : (acceptAt p s).drDepth = s.drDepth := rfl
@[simp] theorem acceptAt_txd (p : Port) (s : State) : (acceptAt p s).txd = s.txd := rfl
@[simp] theorem acceptAt_iflags (p : Port) (s : State) : (acceptAt p s).iflags = s.iflags := rfl
@[simp] theorem acceptAt_ien (p : Port) (s : State) : (acceptAt p s).ien = s.ien := rfl
@[simp] theorem acceptAt_fault (p : Port) (s : State) : (acceptAt p s).fault = s.fault := rfl
@[simp] theorem acceptAt_faultInfo (p : Port) (s : State) : (acceptAt p s).faultInfo = s.faultInfo := rfl
@[simp] theorem acceptAt_out (p : Port) (s : State) : (acceptAt p s).out = s.out := rfl
@[simp] theorem acceptAt_inputs (p : Port) (s : State) : (acceptAt p s).inputs = s.inputs := rfl
@[simp] theorem acceptAt_powerUps (p : Port) (s : State) : (acceptAt p s).powerUps = s.powerUps := rfl

/-! ## raiseFatal -/

@[simp] theorem raiseFatal_cfg (c : FatalCode) (i : Nat) (s : State) : (raiseFatal c i s).cfg = s.cfg := rfl
@[simp] theorem raiseFatal_hc (c : FatalCode) (i : Nat) (s : State) : (raiseFatal c i s).hc = s.hc := rfl
@[simp] theorem raiseFatal_restCur (c : FatalCode) (i : Nat) (s : State) : (raiseFatal c i s).restCur = s.restCur := rfl
@[simp] theorem raiseFatal_dblRelCnt (c : FatalCode) (i : Nat) (s : State) : (raiseFatal c i s).dblRelCnt = s.dblRelCnt := rfl
@[simp] theorem raiseFatal_buf (c : FatalCode) (i : Nat) (s : State) : (raiseFatal c i s).buf = s.buf := rfl
@[simp] theorem raiseFatal_wr (c : FatalCode) (i : Nat) (s : State) : (raiseFatal c i s).wr = s.wr := rfl
@[simp] theorem raiseFatal_rd (c : FatalCode) (i : Nat) (s : State) : (raiseFatal c i s).rd = s.rd := rfl
@[simp] theorem raiseFatal_wrSeen (c : FatalCode) (i : Nat) (s : State) : (raiseFatal c i s).wrSeen = s.wrSeen := rfl
@[simp] theorem raiseFatal_rdSeen (c : FatalCode) (i : Nat) (s : State) : (raiseFatal c i s).rdSeen = s.rdSeen := rfl
@[simp] theorem raiseFatal_dropCnt (c : FatalCode) (i : Nat) (s : State) : (raiseFatal c i s).dropCnt = s.dropCnt := rfl
@[simp] theorem raiseFatal_dropSeen (c : FatalCode) (i : Nat) (s : State) : (raiseFatal c i s).dropSeen = s.dropSeen := rfl
@[simp] theorem raiseFatal_tfreq (c : FatalCode) (i : Nat) (s : State) : (raiseFatal c i s).tfreq = s.tfreq := rfl
@[simp] theorem raiseFatal_tratio (c : FatalCode) (i : Nat) (s : State) : (raiseFatal c i s).tratio = s.tratio := rfl
@[simp] theorem raiseFatal_tdur (c : FatalCode) (i : Nat) (s : State) : (raiseFatal c i s).tdur = s.tdur := rfl
@[simp] theorem raiseFatal_tfloor (c : FatalCode) (i : Nat) (s : State) : (raiseFatal c i s).tfloor = s.tfloor := rfl
@[simp] theorem raiseFatal_tcomp0 (c : FatalCode) (i : Nat) (s : State) : (raiseFatal c i s).tcomp0 = s.tcomp0 := rfl
@[simp] theorem raiseFatal_tcomp1 (c : FatalCode) (i : Nat) (s : State) : (raiseFatal c i s).tcomp1 = s.tcomp1 := rfl
@[simp] theorem raiseFatal_tpresc (c : FatalCode) (i : Nat) (s : State) : (raiseFatal c i s).tpresc = s.tpresc := rfl
@[simp] theorem raiseFatal_tmodn (c : FatalCode) (i : Nat) (s : State) : (raiseFatal c i s).tmodn = s.tmodn := rfl
@[simp] theorem raiseFatal_trelmask (c : FatalCode) (i : Nat) (s : State) : (raiseFatal c i s).trelmask = s.trelmask := rfl
@[simp] theorem raiseFatal_thdepth (c : FatalCode) (i : Nat) (s : State) : (raiseFatal c i s).thdepth = s.thdepth := rfl
@[simp] theorem raiseFatal_polen (c : FatalCode) (i : Nat) (s : State) : (raiseFatal c i s).polen = s.polen := rfl
@[simp] theorem raiseFatal_run (c : FatalCode) (i : Nat) (s : State) : (raiseFatal c i s).run = s.run := rfl
@[simp] theorem raiseFatal_tstate (c : FatalCode) (i : Nat) (s : State) : (raiseFatal c i s).tstate = s.tstate := rfl
@[simp] theorem raiseFatal_tcnt (c : FatalCode) (i : Nat) (s : State) : (raiseFatal c i s).tcnt = s.tcnt := rfl
@[simp] theorem raiseFatal_pdiv (c : FatalCode) (i : Nat) (s : State) : (raiseFatal c i s).pdiv = s.pdiv := rfl
@[simp] theorem raiseFatal_pidxA (c : FatalCode) (i : Nat) (s : State) : (raiseFatal c i s).pidxA = s.pidxA := rfl
@[simp] theorem raiseFatal_pidxB (c : FatalCode) (i : Nat) (s : State) : (raiseFatal c i s).pidxB = s.pidxB := rfl
@[simp] theorem raiseFatal_pol (c : FatalCode) (i : Nat) (s : State) : (raiseFatal c i s).pol = s.pol := rfl
@[simp] theorem raiseFatal_tslot (c : FatalCode) (i : Nat) (s : State) : (raiseFatal c i s).tslot = s.tslot := rfl
@[simp] theorem raiseFatal_drEn (c : FatalCode) (i : Nat) (s : State) : (raiseFatal c i s).drEn = s.drEn := rfl
@[simp] theorem raiseFatal_drActive (c : FatalCode) (i : Nat) (s : State) : (raiseFatal c i s).drActive = s.drActive := rfl
@[simp] theorem raiseFatal_drWait (c : FatalCode) (i : Nat) (s : State) : (raiseFatal c i s).drWait = s.drWait := rfl
@[simp] theorem raiseFatal_drDepth (c : FatalCode) (i : Nat) (s : State) : (raiseFatal c i s).drDepth = s.drDepth := rfl
@[simp] theorem raiseFatal_txd (c : FatalCode) (i : Nat) (s : State) : (raiseFatal c i s).txd = s.txd := rfl
@[simp] theorem raiseFatal_iflags (c : FatalCode) (i : Nat) (s : State) : (raiseFatal c i s).iflags = s.iflags := rfl
@[simp] theorem raiseFatal_ien (c : FatalCode) (i : Nat) (s : State) : (raiseFatal c i s).ien = s.ien := rfl
@[simp] theorem raiseFatal_out (c : FatalCode) (i : Nat) (s : State) : (raiseFatal c i s).out = s.out := rfl
@[simp] theorem raiseFatal_inputs (c : FatalCode) (i : Nat) (s : State) : (raiseFatal c i s).inputs = s.inputs := rfl
@[simp] theorem raiseFatal_port (c : FatalCode) (i : Nat) (s : State) : (raiseFatal c i s).port = s.port := rfl
@[simp] theorem raiseFatal_resp (c : FatalCode) (i : Nat) (s : State) : (raiseFatal c i s).resp = s.resp := rfl
@[simp] theorem raiseFatal_powerUps (c : FatalCode) (i : Nat) (s : State) : (raiseFatal c i s).powerUps = s.powerUps := rfl

/-! ## memWrite -/

@[simp] theorem memWrite_cfg (i : Nat) (v : Word) (s : State) : (memWrite i v s).cfg = s.cfg := rfl
@[simp] theorem memWrite_hc (i : Nat) (v : Word) (s : State) : (memWrite i v s).hc = s.hc := rfl
@[simp] theorem memWrite_restCur (i : Nat) (v : Word) (s : State) : (memWrite i v s).restCur = s.restCur := rfl
@[simp] theorem memWrite_dblRelCnt (i : Nat) (v : Word) (s : State) : (memWrite i v s).dblRelCnt = s.dblRelCnt := rfl
@[simp] theorem memWrite_wr (i : Nat) (v : Word) (s : State) : (memWrite i v s).wr = s.wr := rfl
@[simp] theorem memWrite_rd (i : Nat) (v : Word) (s : State) : (memWrite i v s).rd = s.rd := rfl
@[simp] theorem memWrite_wrSeen (i : Nat) (v : Word) (s : State) : (memWrite i v s).wrSeen = s.wrSeen := rfl
@[simp] theorem memWrite_rdSeen (i : Nat) (v : Word) (s : State) : (memWrite i v s).rdSeen = s.rdSeen := rfl
@[simp] theorem memWrite_dropCnt (i : Nat) (v : Word) (s : State) : (memWrite i v s).dropCnt = s.dropCnt := rfl
@[simp] theorem memWrite_dropSeen (i : Nat) (v : Word) (s : State) : (memWrite i v s).dropSeen = s.dropSeen := rfl
@[simp] theorem memWrite_tfreq (i : Nat) (v : Word) (s : State) : (memWrite i v s).tfreq = s.tfreq := rfl
@[simp] theorem memWrite_tratio (i : Nat) (v : Word) (s : State) : (memWrite i v s).tratio = s.tratio := rfl
@[simp] theorem memWrite_tdur (i : Nat) (v : Word) (s : State) : (memWrite i v s).tdur = s.tdur := rfl
@[simp] theorem memWrite_tfloor (i : Nat) (v : Word) (s : State) : (memWrite i v s).tfloor = s.tfloor := rfl
@[simp] theorem memWrite_tcomp0 (i : Nat) (v : Word) (s : State) : (memWrite i v s).tcomp0 = s.tcomp0 := rfl
@[simp] theorem memWrite_tcomp1 (i : Nat) (v : Word) (s : State) : (memWrite i v s).tcomp1 = s.tcomp1 := rfl
@[simp] theorem memWrite_tpresc (i : Nat) (v : Word) (s : State) : (memWrite i v s).tpresc = s.tpresc := rfl
@[simp] theorem memWrite_tmodn (i : Nat) (v : Word) (s : State) : (memWrite i v s).tmodn = s.tmodn := rfl
@[simp] theorem memWrite_trelmask (i : Nat) (v : Word) (s : State) : (memWrite i v s).trelmask = s.trelmask := rfl
@[simp] theorem memWrite_thdepth (i : Nat) (v : Word) (s : State) : (memWrite i v s).thdepth = s.thdepth := rfl
@[simp] theorem memWrite_polen (i : Nat) (v : Word) (s : State) : (memWrite i v s).polen = s.polen := rfl
@[simp] theorem memWrite_run (i : Nat) (v : Word) (s : State) : (memWrite i v s).run = s.run := rfl
@[simp] theorem memWrite_tstate (i : Nat) (v : Word) (s : State) : (memWrite i v s).tstate = s.tstate := rfl
@[simp] theorem memWrite_tcnt (i : Nat) (v : Word) (s : State) : (memWrite i v s).tcnt = s.tcnt := rfl
@[simp] theorem memWrite_pdiv (i : Nat) (v : Word) (s : State) : (memWrite i v s).pdiv = s.pdiv := rfl
@[simp] theorem memWrite_pidxA (i : Nat) (v : Word) (s : State) : (memWrite i v s).pidxA = s.pidxA := rfl
@[simp] theorem memWrite_pidxB (i : Nat) (v : Word) (s : State) : (memWrite i v s).pidxB = s.pidxB := rfl
@[simp] theorem memWrite_pol (i : Nat) (v : Word) (s : State) : (memWrite i v s).pol = s.pol := rfl
@[simp] theorem memWrite_tslot (i : Nat) (v : Word) (s : State) : (memWrite i v s).tslot = s.tslot := rfl
@[simp] theorem memWrite_drEn (i : Nat) (v : Word) (s : State) : (memWrite i v s).drEn = s.drEn := rfl
@[simp] theorem memWrite_drActive (i : Nat) (v : Word) (s : State) : (memWrite i v s).drActive = s.drActive := rfl
@[simp] theorem memWrite_drWait (i : Nat) (v : Word) (s : State) : (memWrite i v s).drWait = s.drWait := rfl
@[simp] theorem memWrite_drDepth (i : Nat) (v : Word) (s : State) : (memWrite i v s).drDepth = s.drDepth := rfl
@[simp] theorem memWrite_txd (i : Nat) (v : Word) (s : State) : (memWrite i v s).txd = s.txd := rfl
@[simp] theorem memWrite_iflags (i : Nat) (v : Word) (s : State) : (memWrite i v s).iflags = s.iflags := rfl
@[simp] theorem memWrite_ien (i : Nat) (v : Word) (s : State) : (memWrite i v s).ien = s.ien := rfl
@[simp] theorem memWrite_fault (i : Nat) (v : Word) (s : State) : (memWrite i v s).fault = s.fault := rfl
@[simp] theorem memWrite_faultInfo (i : Nat) (v : Word) (s : State) : (memWrite i v s).faultInfo = s.faultInfo := rfl
@[simp] theorem memWrite_out (i : Nat) (v : Word) (s : State) : (memWrite i v s).out = s.out := rfl
@[simp] theorem memWrite_inputs (i : Nat) (v : Word) (s : State) : (memWrite i v s).inputs = s.inputs := rfl
@[simp] theorem memWrite_port (i : Nat) (v : Word) (s : State) : (memWrite i v s).port = s.port := rfl
@[simp] theorem memWrite_resp (i : Nat) (v : Word) (s : State) : (memWrite i v s).resp = s.resp := rfl
@[simp] theorem memWrite_powerUps (i : Nat) (v : Word) (s : State) : (memWrite i v s).powerUps = s.powerUps := rfl

/-! ## syncR -/

@[simp] theorem syncR_cfg (s : State) : (syncR s).cfg = s.cfg := rfl
@[simp] theorem syncR_hc (s : State) : (syncR s).hc = s.hc := rfl
@[simp] theorem syncR_restCur (s : State) : (syncR s).restCur = s.restCur := rfl
@[simp] theorem syncR_dblRelCnt (s : State) : (syncR s).dblRelCnt = s.dblRelCnt := rfl
@[simp] theorem syncR_buf (s : State) : (syncR s).buf = s.buf := rfl
@[simp] theorem syncR_wr (s : State) : (syncR s).wr = s.wr := rfl
@[simp] theorem syncR_rd (s : State) : (syncR s).rd = s.rd := rfl
@[simp] theorem syncR_wrSeen (s : State) : (syncR s).wrSeen = s.wrSeen := rfl
@[simp] theorem syncR_dropCnt (s : State) : (syncR s).dropCnt = s.dropCnt := rfl
@[simp] theorem syncR_dropSeen (s : State) : (syncR s).dropSeen = s.dropSeen := rfl
@[simp] theorem syncR_tfreq (s : State) : (syncR s).tfreq = s.tfreq := rfl
@[simp] theorem syncR_tratio (s : State) : (syncR s).tratio = s.tratio := rfl
@[simp] theorem syncR_tdur (s : State) : (syncR s).tdur = s.tdur := rfl
@[simp] theorem syncR_tfloor (s : State) : (syncR s).tfloor = s.tfloor := rfl
@[simp] theorem syncR_tcomp0 (s : State) : (syncR s).tcomp0 = s.tcomp0 := rfl
@[simp] theorem syncR_tcomp1 (s : State) : (syncR s).tcomp1 = s.tcomp1 := rfl
@[simp] theorem syncR_tpresc (s : State) : (syncR s).tpresc = s.tpresc := rfl
@[simp] theorem syncR_tmodn (s : State) : (syncR s).tmodn = s.tmodn := rfl
@[simp] theorem syncR_trelmask (s : State) : (syncR s).trelmask = s.trelmask := rfl
@[simp] theorem syncR_thdepth (s : State) : (syncR s).thdepth = s.thdepth := rfl
@[simp] theorem syncR_polen (s : State) : (syncR s).polen = s.polen := rfl
@[simp] theorem syncR_run (s : State) : (syncR s).run = s.run := rfl
@[simp] theorem syncR_tstate (s : State) : (syncR s).tstate = s.tstate := rfl
@[simp] theorem syncR_tcnt (s : State) : (syncR s).tcnt = s.tcnt := rfl
@[simp] theorem syncR_pdiv (s : State) : (syncR s).pdiv = s.pdiv := rfl
@[simp] theorem syncR_pidxA (s : State) : (syncR s).pidxA = s.pidxA := rfl
@[simp] theorem syncR_pidxB (s : State) : (syncR s).pidxB = s.pidxB := rfl
@[simp] theorem syncR_pol (s : State) : (syncR s).pol = s.pol := rfl
@[simp] theorem syncR_tslot (s : State) : (syncR s).tslot = s.tslot := rfl
@[simp] theorem syncR_drEn (s : State) : (syncR s).drEn = s.drEn := rfl
@[simp] theorem syncR_drActive (s : State) : (syncR s).drActive = s.drActive := rfl
@[simp] theorem syncR_drWait (s : State) : (syncR s).drWait = s.drWait := rfl
@[simp] theorem syncR_drDepth (s : State) : (syncR s).drDepth = s.drDepth := rfl
@[simp] theorem syncR_txd (s : State) : (syncR s).txd = s.txd := rfl
@[simp] theorem syncR_iflags (s : State) : (syncR s).iflags = s.iflags := rfl
@[simp] theorem syncR_ien (s : State) : (syncR s).ien = s.ien := rfl
@[simp] theorem syncR_fault (s : State) : (syncR s).fault = s.fault := rfl
@[simp] theorem syncR_faultInfo (s : State) : (syncR s).faultInfo = s.faultInfo := rfl
@[simp] theorem syncR_out (s : State) : (syncR s).out = s.out := rfl
@[simp] theorem syncR_inputs (s : State) : (syncR s).inputs = s.inputs := rfl
@[simp] theorem syncR_port (s : State) : (syncR s).port = s.port := rfl
@[simp] theorem syncR_resp (s : State) : (syncR s).resp = s.resp := rfl
@[simp] theorem syncR_powerUps (s : State) : (syncR s).powerUps = s.powerUps := rfl

/-! ## The fields that the updates write -/

@[simp] theorem settle_restCur (s : State) :
    (settle s).restCur = if s.irq || s.halted then 0 else s.restCur := rfl
@[simp] theorem setFlag_iflags (b : BitVec 4) (s : State) : (setFlag b s).iflags = s.iflags ||| b := rfl
@[simp] theorem clearFlags_iflags (m : BitVec 4) (s : State) :
    (clearFlags m s).iflags = s.iflags &&& ~~~m := rfl
@[simp] theorem respond_resp (st : Status) (d : Word) (s : State) :
    (respond st d s).resp = some ⟨s.port, st, d⟩ := rfl
@[simp] theorem wakeAtIsr_restCur (s : State) :
    (wakeAtIsr s).restCur = if s.port = .isr then 0 else s.restCur := rfl
@[simp] theorem acceptAt_port (p : Port) (s : State) : (acceptAt p s).port = p := rfl
@[simp] theorem acceptAt_resp (p : Port) (s : State) : (acceptAt p s).resp = none := rfl
@[simp] theorem raiseFatal_fault (c : FatalCode) (i : Nat) (s : State) :
    (raiseFatal c i s).fault = s.fault ||| fatalBit c := rfl
@[simp] theorem raiseFatal_faultInfo (c : FatalCode) (i : Nat) (s : State) :
    (raiseFatal c i s).faultInfo = if s.fault = 0 then faultWord c i else s.faultInfo := rfl
@[simp] theorem memWrite_buf (i : Nat) (v : Word) (s : State) :
    (memWrite i v s).buf = s.buf.write i v := rfl
@[simp] theorem syncR_rdSeen (s : State) : (syncR s).rdSeen = s.rd := rfl

/-! ## Functions of the state that an update leaves -/

@[simp] theorem settle_irq (s : State) : (settle s).irq = s.irq := rfl
@[simp] theorem settle_halted (s : State) : (settle s).halted = s.halted := rfl
@[simp] theorem settle_holds (s : State) (k : Nat) : (settle s).holds k = s.holds k := rfl
@[simp] theorem setFlag_halted (b : BitVec 4) (s : State) : (setFlag b s).halted = s.halted := rfl
@[simp] theorem setFlag_resting (b : BitVec 4) (s : State) : (setFlag b s).resting = s.resting := rfl
@[simp] theorem setFlag_holds (b : BitVec 4) (s : State) (k : Nat) : (setFlag b s).holds k = s.holds k := rfl
@[simp] theorem clearFlags_halted (m : BitVec 4) (s : State) : (clearFlags m s).halted = s.halted := rfl
@[simp] theorem clearFlags_resting (m : BitVec 4) (s : State) : (clearFlags m s).resting = s.resting := rfl
@[simp] theorem clearFlags_holds (m : BitVec 4) (s : State) (k : Nat) : (clearFlags m s).holds k = s.holds k := rfl
@[simp] theorem respond_irq (st : Status) (d : Word) (s : State) : (respond st d s).irq = s.irq := rfl
@[simp] theorem respond_halted (st : Status) (d : Word) (s : State) : (respond st d s).halted = s.halted := rfl
@[simp] theorem respond_resting (st : Status) (d : Word) (s : State) : (respond st d s).resting = s.resting := rfl
@[simp] theorem respond_holds (st : Status) (d : Word) (s : State) (k : Nat) : (respond st d s).holds k = s.holds k := rfl
@[simp] theorem wakeAtIsr_irq (s : State) : (wakeAtIsr s).irq = s.irq := rfl
@[simp] theorem wakeAtIsr_halted (s : State) : (wakeAtIsr s).halted = s.halted := rfl
@[simp] theorem wakeAtIsr_holds (s : State) (k : Nat) : (wakeAtIsr s).holds k = s.holds k := rfl
@[simp] theorem acceptAt_irq (p : Port) (s : State) : (acceptAt p s).irq = s.irq := rfl
@[simp] theorem acceptAt_halted (p : Port) (s : State) : (acceptAt p s).halted = s.halted := rfl
@[simp] theorem acceptAt_resting (p : Port) (s : State) : (acceptAt p s).resting = s.resting := rfl
@[simp] theorem acceptAt_holds (p : Port) (s : State) (k : Nat) : (acceptAt p s).holds k = s.holds k := rfl
@[simp] theorem raiseFatal_irq (c : FatalCode) (i : Nat) (s : State) : (raiseFatal c i s).irq = s.irq := rfl
@[simp] theorem raiseFatal_resting (c : FatalCode) (i : Nat) (s : State) : (raiseFatal c i s).resting = s.resting := rfl
@[simp] theorem raiseFatal_holds (c : FatalCode) (i : Nat) (s : State) (k : Nat) : (raiseFatal c i s).holds k = s.holds k := rfl
@[simp] theorem memWrite_irq (i : Nat) (v : Word) (s : State) : (memWrite i v s).irq = s.irq := rfl
@[simp] theorem memWrite_halted (i : Nat) (v : Word) (s : State) : (memWrite i v s).halted = s.halted := rfl
@[simp] theorem memWrite_resting (i : Nat) (v : Word) (s : State) : (memWrite i v s).resting = s.resting := rfl
@[simp] theorem memWrite_holds (i : Nat) (v : Word) (s : State) (k : Nat) : (memWrite i v s).holds k = s.holds k := rfl
@[simp] theorem syncR_irq (s : State) : (syncR s).irq = s.irq := rfl
@[simp] theorem syncR_halted (s : State) : (syncR s).halted = s.halted := rfl
@[simp] theorem syncR_resting (s : State) : (syncR s).resting = s.resting := rfl
@[simp] theorem syncR_holds (s : State) (k : Nat) : (syncR s).holds k = s.holds k := rfl

end Sys2Proof.Machine
end

