-- ==== Sys2Proof/Laws/Ops.lean ====
section
/-!
SUPPORT. For each shared operation, one lemma that says everything it can do.
-/
namespace Sys2Proof.Machine

/-- `onNext f` has a next state exactly where its argument has one, and it is `f` of that. -/
theorem onNext_eq_next {f : State → State} {r : Result} {t : State} :
    onNext f r = .next t ↔ ∃ u, r = .next u ∧ t = f u := by
  cases r <;> simp [onNext, eq_comm]

@[simp] theorem onNext_next (f : State → State) (u : State) : onNext f (.next u) = .next (f u) := rfl

/-- An access that has a next state is to a slot that exists. -/
theorem atSlot_eq_next {i : Nat} {s t : State} {k : Result} :
    atSlot i s k = .next t ↔ i < s.cfg.rbSize ∧ k = .next t := by
  unfold atSlot
  split <;> simp_all

/-- All that `Acquire` can do (rule R131). -/
theorem acquire_cases (d : Nat) (s : State) :
    (s.holds d = s.cfg.hcMax ∧ acquire d s = raiseFatal .holdOvf d s) ∨
      (s.holds d ≠ s.cfg.hcMax ∧ acquire d s = { s with hc := s.hc.set d (s.holds d + 1) }) := by
  unfold acquire
  split <;> simp_all

/-- All that `Release` can do (rule R132). -/
theorem release_cases (d : Nat) (s : State) :
    (0 < s.holds d ∧ release d s = { s with hc := s.hc.set d (s.holds d - 1) }) ∨
      (s.holds d = 0 ∧
        release d s =
          { s with dblRelCnt := countEvent s.dblRelCnt, iflags := s.iflags ||| flagDBLREL }) := by
  unfold release
  split
  · exact .inl ⟨‹_›, rfl⟩
  · exact .inr ⟨by omega, rfl⟩

/-- All that `DrainArm` can do (rule R191). -/
theorem drainArm_cases (s : State) :
    (s.halted = false ∧ s.drEn = true ∧ s.drActive = false ∧ s.rd ≠ s.wrSeen ∧
        drainArm s = { acquire s.drDepth.toNat s with drActive := true }) ∨
      (¬(s.halted = false ∧ s.drEn = true ∧ s.drActive = false ∧ s.rd ≠ s.wrSeen) ∧ drainArm s = s) := by
  unfold drainArm
  split
  · next h => exact .inl ⟨h.1, h.2.1, h.2.2.1, h.2.2.2, rfl⟩
  · next h => exact .inr ⟨h, rfl⟩

/-- All that a command can do (rule R109): it is refused as illegal, it is refused by the halt, or its rule runs on the state
after the wake of the `ISR` port and `Settle()` ends it. -/
theorem command_eq_next {i : Instr} {body : State → Result} {s t : State} :
    command i body s = .next t ↔
      (staticLegal s.cfg s.port i = false ∧ t = settle (respond .illegal 0 (wakeAtIsr s))) ∨
      (staticLegal s.cfg s.port i = true ∧ s.halted = true ∧ servedWhenHalted i = false ∧
        t = settle (respond .faulted 0 (wakeAtIsr s))) ∨
      (staticLegal s.cfg s.port i = true ∧ (s.halted = false ∨ servedWhenHalted i = true) ∧
        ∃ u, body (wakeAtIsr s) = .next u ∧ t = settle u) := by
  rw [← onNext_eq_next (f := settle)]
  unfold command
  cases staticLegal s.cfg s.port i <;> cases s.halted <;> cases servedWhenHalted i <;> simp [eq_comm]

/-- A statically legal command on a core that serves it runs its rule. -/
theorem command_of_legal {i : Instr} {body : State → Result} {s : State}
    (hl : staticLegal s.cfg s.port i = true) (hh : s.halted = false ∨ servedWhenHalted i = true) :
    command i body s = onNext settle (body (wakeAtIsr s)) := by
  unfold command
  rcases hh with hh | hh <;> simp [hl, hh]

/-- `Settle()` changes nothing where nothing is pending (rule R221). -/
theorem settle_eq_self {s : State} (h : s.restCur ≠ 0 → s.irq = false ∧ s.halted = false) : settle s = s := by
  have : (if s.irq || s.halted then 0 else s.restCur) = s.restCur := by
    split
    · next hp =>
      by_cases hr : s.restCur = 0
      · exact hr.symm
      · simp [h hr] at hp
    · rfl
  unfold settle
  rw [this]

/-- The input a step takes is one the core accepts, and the other inputs stay in their order (rule R222). -/
theorem firstAccepted_eq_some {resting : Bool} {l : List Input} {x : Input} {rest : List Input}
    (h : firstAccepted resting l = some (x, rest)) :
    ∃ held after, l = held ++ x :: after ∧ rest = held ++ after ∧
      (∀ y ∈ held, resting = true ∧ acceptedWhileResting y = false) ∧
      ¬(resting = true ∧ acceptedWhileResting x = false) := by
  induction l generalizing rest with
  | nil => simp [firstAccepted] at h
  | cons y ys ih =>
    simp only [firstAccepted] at h
    split at h
    · next hy =>
      obtain ⟨⟨x', r'⟩, hr, he⟩ := Option.map_eq_some_iff.mp h
      obtain ⟨rfl, rfl⟩ := Prod.mk.inj he
      obtain ⟨held, after, hl, hrest, hheld, hx⟩ := ih hr
      refine ⟨y :: held, after, by simp [hl], by simp [hrest], ?_, hx⟩
      intro z hz
      rcases List.mem_cons.mp hz with rfl | hz
      · exact hy
      · exact hheld z hz
    · next hy =>
      obtain ⟨rfl, rfl⟩ := Prod.mk.inj (Option.some.inj h)
      exact ⟨[], ys, rfl, rfl, by simp, hy⟩

end Sys2Proof.Machine
end

