-- ==== Sys2Proof/Laws/PerInstr.lean ====
section
/-!
SUPPORT. Statements for all instructions, made per instruction. The family `FieldsRead`: the three fields of the command word
that the encoder writes are the ones the decoder reads.
-/
namespace Sys2Proof.Laws

/-- The fields of the encoder's command word, as the decoder reads them (rule R102). -/
def FieldsRead.Statement (i : Instr) : Prop :=
  opcField (encode i).cmd = opcodeOf i ∧ zField (encode i).cmd = 0 ∧ aField (encode i).cmd = argumentOf i

/-- The fields of a word put together from them. -/
theorem fields_of_append (o : Byte) (a : Byte) :
    opcField (o ++ (0 : BitVec 16) ++ a) = o ∧ zField (o ++ (0 : BitVec 16) ++ a) = 0 ∧
      aField (o ++ (0 : BitVec 16) ++ a) = a := by
  refine ⟨?_, ?_, ?_⟩ <;>
  · apply BitVec.eq_of_getLsbD_eq
    intro j hj
    simp only [opcField, zField, aField, BitVec.getLsbD_extractLsb', BitVec.getLsbD_append]
    rcases Nat.lt_or_ge j 8 with h | h
    · interval_cases j <;> simp
    · first
      | omega
      | (interval_cases j <;> simp)

theorem FieldsRead.acq (d : Byte) : FieldsRead.Statement (.acq d) := fields_of_append _ _
theorem FieldsRead.rel (d : Byte) : FieldsRead.Statement (.rel d) := fields_of_append _ _
theorem FieldsRead.rest : FieldsRead.Statement .rest := fields_of_append _ _
theorem FieldsRead.push (w : Word) : FieldsRead.Statement (.push w) := fields_of_append _ _
theorem FieldsRead.pop : FieldsRead.Statement .pop := fields_of_append _ _
theorem FieldsRead.tcalc : FieldsRead.Statement .tcalc := fields_of_append _ _
theorem FieldsRead.tstart : FieldsRead.Statement .tstart := fields_of_append _ _
theorem FieldsRead.rdreg (r : Byte) : FieldsRead.Statement (.rdreg r) := fields_of_append _ _
theorem FieldsRead.wrreg (r : Byte) (w : Word) : FieldsRead.Statement (.wrreg r w) := fields_of_append _ _

end Sys2Proof.Laws
end

