-- ==== Sys2Proof/Tests/Slice0.lean ====
section
/-!
SUPPORT. The model's own tests: the operand checks, words written out bit by bit from `spec/30_encoding.md` rules R102 to
R105, single steps taken from the vectors of `spec/95_test_vectors.md` (each test names its vector), and for each statement
with hypotheses a concrete state and operands that meet them (`witness_<statement>`).
-/
namespace Sys2Proof.Tests

open Sys2Proof Sys2Proof.Machine

/-! ## Helpers -/

/-- What is seen in the next state of an outcome, if it has one. -/
def seen {α : Type} (f : State → α) : Host.Outcome State Fault Refusal → Option α
  | .next t => some (f t)
  | .fault _ => none
  | .refused _ => none

/-- The next state of an outcome that has one. -/
def nextOf : Host.Outcome State Fault Refusal → State
  | .next t => t
  | .fault _ => State.reset
  | .refused _ => State.reset

/-- The status and the data of a response. -/
def answerOf (t : State) : Option (Status × Word) := t.resp.map (fun r => (r.status, r.rdata))

/-- A packet with the command word `c` and the data word `w` at a port. -/
def packet (p : Port) (c w : Word) : Input := .command p ⟨c, w⟩

/-- The vectors' parameters with `TWO_DOMAIN`. -/
def apart : Params := { Params.vectors with cdc := .twoDomain }

/-- The reset state with a port. -/
def atPort (p : Port) : State := { State.reset with port := p }

/-- The reset state of a core whose domains are apart, with a port. -/
def apartAt (p : Port) : State := { State.resetWith apart with port := p }

/-- A halted core: `HOLD_OVF` at depth 2. -/
def halted : State := { State.reset with fault := 1, faultInfo := 0x201 }

/-- A timer that has just been started: vector T1 step 1. -/
def started : State :=
  { State.reset with
    tcomp0 := 5, tcomp1 := 3, thdepth := 1, polen := true, run := true, tcnt := 5 }

/-- The timer of vector T1 one tick before phase A. -/
def beforePhaseA : State := { started with tcnt := 1 }

/-- The timer of vector T1 one tick before its first phase B. -/
def beforePhaseB : State :=
  { started with tcnt := 4, tstate := .exciting, hc := [0, 1, 0, 0, 0], pidxA := 1, out := [.actStart] }

/-- One sample in the buffer. -/
def oneStored : State := { State.reset with buf := [(0, 0x11)], wr := 1, wrSeen := 1 }

/-- The drain unit enabled at depth 1. -/
def drainOn : State := { State.reset with drEn := true, drDepth := 1 }

/-- The drain unit armed with one sample in view: vector D1 step 4. -/
def draining : State :=
  { drainOn with buf := [(0, 0x41)], wr := 1, wrSeen := 1, hc := [0, 1, 0, 0, 0], drActive := true }

/-- The drain unit enabled with one sample in view and not armed yet. -/
def drainReady : State := { oneStored with drDepth := 1 }

/-- A full buffer of four slots: vector B1 step 5. -/
def full : State :=
  { State.reset with port := .prod, buf := [(0, 0x11), (1, 0x22), (2, 0x33)], wr := 3, wrSeen := 3 }

/-! ## Well-formedness (rule R108): what each check refuses -/

theorem test_acq_depth_refused : Instr.wellFormed Params.vectors (.acq 5) = false := by decide
theorem test_rel_depth_refused : Instr.wellFormed Params.vectors (.rel 255) = false := by decide
theorem test_rdreg_reserved_refused : Instr.wellFormed Params.vectors (.rdreg 0x03) = false := by decide
theorem test_wrreg_missing_counter_refused : Instr.wellFormed Params.vectors (.wrreg 0x15 0) = false := by decide
theorem test_wellFormed_accepts :
    ([.acq 4, .rel 0, .rest, .push 0xFFFFFFFF, .pop, .tcalc, .tstart, .rdreg 0x14, .wrreg 0x51 0] : List Instr).all
      (Instr.wellFormed Params.vectors) = true := by decide
theorem test_params_legal : Params.vectors.Legal ∧ ¬ ({ Params.vectors with rbSize := 1 } : Params).Legal := by decide
theorem test_port_table :
    portAllows .isr .rest = false ∧ portAllows .bg .pop = false ∧ portAllows .cons (.push 0) = false ∧
      portAllows .prod (.acq 0) = false ∧ portAllows .cons (.wrreg 0x52 0) = false := by decide

/-! ## Decoding words written out bit by bit: `OPC`, then `Z`, then `A` (rules R102, R105) -/

theorem test_decode_acq : decode ⟨0b00000001_0000000000000000_00000001, 0⟩ = .ok (.acq 1) := by decide
theorem test_decode_rel : decode ⟨0b00000010_0000000000000000_11111111, 9⟩ = .ok (.rel 255) := by decide
theorem test_decode_rest : decode ⟨0b00000011_0000000000000000_00000000, 9⟩ = .ok .rest := by decide
theorem test_decode_push :
    decode ⟨0b00010000_0000000000000000_00000000, 0x133⟩ = .ok (.push 0x133) := by decide
theorem test_decode_pop : decode ⟨0b00010001_0000000000000000_00000000, 0⟩ = .ok .pop := by decide
theorem test_decode_tcalc : decode ⟨0b00100000_0000000000000000_00000000, 0⟩ = .ok .tcalc := by decide
theorem test_decode_tstart : decode ⟨0b00100001_0000000000000000_00000000, 0⟩ = .ok .tstart := by decide
theorem test_decode_rdreg : decode ⟨0b00110000_0000000000000000_01011001, 0⟩ = .ok (.rdreg 0x59) := by decide
theorem test_decode_wrreg :
    decode ⟨0b00110001_0000000000000000_00110101, 5⟩ = .ok (.wrreg 0x35 5) := by decide
theorem test_decode_refuses_opcode : decode ⟨0x12000000, 0⟩ = .error (.reservedOpcode 0x12) := by decide
theorem test_decode_refuses_z : decode ⟨0x01800001, 0⟩ = .error (.reservedFieldSet 0x8000) := by decide
theorem test_decode_refuses_a : decode ⟨0x03000001, 0⟩ = .error (.argumentNotZero 1) := by decide
theorem test_bytes_little_endian :
    decodeBytes [0x35, 0, 0, 0x31, 0x05, 0, 0, 0x80] = some (.wrreg 0x35 0x80000005) := by decide
theorem test_bytes_whole_packets_only : decodeBytes [0, 0, 0, 3] = none := by decide
theorem test_table_word : decodeTableWord 64 0x41_10000000 = some (.push 0x41) := by decide
theorem test_table_word_runs :
    seen (fun t => t.hc) (step (State.reset.withFetchWord 32 0x01000002)) = some [0, 0, 1, 0, 0] := by decide

/-! ## Single steps from the vectors -/

/-- Vector A2. -/
theorem test_acq :
    seen (fun t => (t.hc, answerOf t)) (deliver (packet .bg 0x01000001 0) State.reset) =
      some ([0, 1, 0, 0, 0], some (.ok, 0)) := by decide
/-- Vector A10, fourth step. -/
theorem test_acq_overflow :
    seen (fun t => (t.hc, t.fault, t.faultInfo, answerOf t))
        (deliver (packet .isr 0x01000002 0)
          { State.resetWith { Params.vectors with hcW := 2 } with hc := [0, 0, 3, 0, 0] }) =
      some ([0, 0, 3, 0, 0], 1, 0x201, some (.faulted, 0)) := by decide
/-- Vector A3. -/
theorem test_rel :
    seen (fun t => (t.hc, t.iflags, answerOf t))
        (deliver (packet .bg 0x02000001 0) { State.reset with hc := [0, 1, 0, 0, 0] }) =
      some ([0, 0, 0, 0, 0], 0, some (.ok, 0)) := by decide
/-- Vector A7, first step. -/
theorem test_rel_double :
    seen (fun t => (t.hc, t.dblRelCnt, t.iflags, answerOf t)) (deliver (packet .isr 0x02000001 0) State.reset) =
      some ([0, 0, 0, 0, 0], 1, 8, some (.ok, 0)) := by decide
/-- Vector A4, second row, and program P1 step 5. -/
theorem test_rest :
    seen (fun t => (t.restCur, answerOf t))
        (deliver (packet .bg 0x03000000 0) { State.reset with hc := [0, 0, 1, 0, 2] }) =
      some (2, some (.ok, 2)) := by decide
/-- Vector A12, third step: a pending enabled flag ends the rest state in the same step. -/
theorem test_rest_pending :
    seen (fun t => (t.restCur, answerOf t))
        (deliver (packet .bg 0x03000000 0) { State.reset with iflags := 8, ien := 8 }) =
      some (0, some (.ok, 4)) := by decide
/-- Vector B1 step 4: only `wdata[7:0]` is stored. -/
theorem test_push :
    seen (fun t => (t.buf, t.wr, t.wrSeen, answerOf t))
        (deliver (packet .prod 0x10000000 0x133) { oneStored with wr := 2, wrSeen := 2 }) =
      some ([(0, 0x11), (2, 0x33)], 3, 3, some (.ok, 0)) := by decide
/-- Vector B1 step 5. -/
theorem test_push_full :
    seen (fun t => (t.wr, t.dropSeen, t.iflags, answerOf t)) (deliver (packet .prod 0x10000000 0x44) full) =
      some (3, 1, 4, some (.full, 0)) := by decide
/-- Vector B1 steps 1 and 7. -/
theorem test_pop :
    seen answerOf (deliver (packet .cons 0x11000000 0) State.reset) = some (some (.empty, 0)) ∧
      seen (fun t => (t.buf, t.rd, t.rdSeen, answerOf t)) (deliver (packet .cons 0x11000000 0) oneStored) =
        some ([(0, 0x11)], 1, 1, some (.ok, 0x11)) := by decide
/-- Vector D1 step 6. -/
theorem test_pop_while_draining :
    seen answerOf (deliver (packet .cons 0x11000000 0) draining) = some (some (.illegal, 0)) := by decide
/-- Vector V3: a ratio of 1.25, a timer of 16 bits, two shifts. -/
theorem test_tcalc :
    seen (fun t => (t.tcomp0, t.tcomp1, t.tpresc, answerOf t))
        (deliver (packet .bg 0x20000000 0)
          { State.resetWith { Params.vectors with timerW := 16 } with
            tfreq := 32768, tratio := 0x14000, tdur := 3750, tfloor := 4 }) =
      some (38400, 38360, 2, some (.ok, 0)) := by decide
/-- Vector V11: the products are exact. -/
theorem test_tcalc_wide :
    seen (fun t => (t.fault, t.faultInfo, answerOf t))
        (deliver (packet .bg 0x20000000 0)
          { State.reset with tfreq := 0xFFFFFFFF, tratio := 0xFFFFFFFF, tdur := 0xFFFFFFFF, tfloor := 1 }) =
      some (2, 0x103, some (.faulted, 0)) := by decide
/-- Vector T5, the smallest pair that starts. -/
theorem test_tstart :
    seen (fun t => (t.run, t.tcnt, t.tstate, answerOf t))
        (deliver (packet .bg 0x21000000 0) { State.reset with tcomp0 := 2, tcomp1 := 1 }) =
      some (true, 2, .idle, some (.ok, 0)) := by decide
/-- Vector T5, from reset. -/
theorem test_tstart_refused :
    seen (fun t => (t.run, t.fault, t.faultInfo, answerOf t)) (deliver (packet .bg 0x21000000 0) State.reset) =
      some (false, 2, 0x204, some (.faulted, 0)) := by decide
/-- Vector T1 step 10. -/
theorem test_rdreg :
    seen answerOf (deliver (packet .bg 0x30000030 0) beforePhaseB) = some (some (.ok, 0xB)) := by decide
/-- Vector A12, last step: the read at the `ISR` port sees the wake. -/
theorem test_rdreg_isr :
    seen (fun t => (t.restCur, answerOf t)) (deliver (packet .isr 0x30000001 0) { State.reset with restCur := 4 }) =
      some (0, some (.ok, 0)) := by decide
/-- Vector G3. -/
theorem test_wrreg_clears_flags :
    seen (fun t => (t.iflags, answerOf t)) (deliver (packet .isr 0x31000051 5) { State.reset with iflags := 15 }) =
      some (0xA, some (.ok, 0)) := by decide
/-- Vector G2, `WRREG TCTRL, 9`: the legal bit is not written either. -/
theorem test_wrreg_illegal :
    seen (fun t => (t.polen, answerOf t)) (deliver (packet .bg 0x31000030 9) State.reset) =
      some (false, some (.illegal, 0)) := by decide
/-- Vector X2: static legality is checked before the halt. -/
theorem test_halted_order :
    seen answerOf (deliver (packet .isr 0x01000005 0) halted) = some (some (.illegal, 0)) ∧
      seen answerOf (deliver (packet .bg 0x31000038 1) halted) = some (some (.faulted, 0)) := by decide
/-- Vector T1 step 9, phase A. -/
theorem test_tick_phase_a :
    seen (fun t => (t.hc, t.tstate, t.tcnt, t.pidxA, t.iflags)) (deliver (.event .oscTick) beforePhaseA) =
        some ([0, 1, 0, 0, 0], .exciting, 5, 1, 1) ∧
      seen (fun t => t.out) (deliver (.event .oscTick) beforePhaseA) = some [.actStart] := by decide
/-- Vector T1 step 13, phase B: the polarity in the trace is the new one. -/
theorem test_tick_phase_b :
    seen (fun t => (t.hc, t.tstate, t.tcnt, t.pidxB, t.tslot)) (deliver (.event .oscTick) beforePhaseB) =
        some ([0, 0, 0, 0, 0], .idle, 3, 1, 0) ∧
      seen (fun t => t.out) (deliver (.event .oscTick) beforePhaseB) = some [.actStart, .actStop 0 true] := by decide
/-- Vector D1 steps 9 and 10. -/
theorem test_txbl :
    seen (fun t => (t.rd, t.rdSeen, t.drWait, t.txd, t.out)) (deliver (.event .txbl) draining) =
        some (1, 1, true, 0x41, [.tx 0x41]) ∧
      seen id (deliver (.event .txbl) { draining with drWait := true }) = some { draining with drWait := true } := by decide
/-- Vector D1 steps 12 and 15. -/
theorem test_txc :
    seen id (deliver (.event .txc) { draining with drWait := true }) = some draining ∧
      seen id (deliver (.event .txc) draining) = some draining := by decide
/-- Program P1 step 2. -/
theorem test_wake :
    seen id (deliver (.event .wakeExt) { State.reset with restCur := 4 }) = some State.reset := by decide
/-- Vector D2 step 4. -/
theorem test_syncw :
    seen (fun t => (t.wrSeen, t.hc, t.drActive))
        (deliver (.event .syncw) { drainOn with cfg := apart, buf := [(0, 0x51)], wr := 1 }) =
      some (1, [0, 1, 0, 0, 0], true) := by decide
/-- Vector B2 steps 9 and 12. -/
theorem test_syncr_syncd :
    seen (fun t => t.rdSeen) (deliver (.event .syncr) { State.resetWith apart with rd := 1 }) = some 1 ∧
      seen (fun t => (t.dropSeen, t.iflags)) (deliver (.event .syncd) { State.resetWith apart with dropCnt := 2 }) =
        some (2, 4) := by decide
/-- Vector A10, the reset. -/
theorem test_reset :
    seen id (deliver (.event .reset) { halted with hc := [0, 0, 3, 0, 0], restCur := 2 }) =
      some { State.reset with powerUps := 1 } := by decide

/-! ## Witnesses: a state and operands that meet the hypotheses of each statement, clause by clause -/

theorem witness_RegisterNumbersAgree : Params.vectors.ndepth ≤ 16 ∧ 16 ≤ 16 := by decide

/-- A resting core with a command held at `BG` and one to take at `ISR`. -/
def restingWithInputs : State :=
  { State.reset with restCur := 4, inputs := [packet .bg 0x03000000 0, packet .isr 0x02000001 0] }

theorem witness_StepRunsDecodedCommand :
    firstAccepted restingWithInputs.resting restingWithInputs.inputs =
        some (packet .isr 0x02000001 0, [packet .bg 0x03000000 0]) ∧
      decode ⟨0x02000001, 0⟩ = .ok (.rel 1) := by decide

theorem witness_RestHoldsBackgroundCommands_open :
    State.reset.restCur = 0 ∧
      ({ State.reset with inputs := [packet .bg 0x03000000 0] } : State).inputs = packet .bg 0x03000000 0 :: [] := by
  decide
theorem witness_RestHoldsBackgroundCommands_held :
    restingWithInputs.restCur ≠ 0 ∧
      restingWithInputs.inputs = [⟨0x03000000, 0⟩].map (.command .bg) ++ packet .isr 0x02000001 0 :: [] ∧
      ∀ q, packet .isr 0x02000001 0 ≠ .command .bg q :=
  ⟨by decide, by decide, fun _ h => nomatch h⟩
theorem witness_RestHoldsBackgroundCommands_only :
    ({ restingWithInputs with inputs := [packet .bg 0x03000000 0] } : State).inputs =
      [⟨0x03000000, 0⟩].map (.command .bg) := by decide

theorem witness_StaticallyIllegalIsRefused_undecoded :
    decode ⟨0xFF000000, 0⟩ = .error (.reservedOpcode 0xFF) ∧ decode ⟨0x01000101, 0⟩ = .error (.reservedFieldSet 1) ∧
      decode ⟨0x10000001, 0⟩ = .error (.argumentNotZero 1) := by decide
theorem witness_StaticallyIllegalIsRefused_operand :
    decode ⟨0x01000005, 0⟩ = .ok (.acq 5) ∧ State.reset.cfg.ndepth ≤ (5 : Byte).toNat ∧
      decode ⟨0x30000015, 0⟩ = .ok (.rdreg 0x15) ∧ regOf State.reset.cfg.ndepth 0x15 = none := by decide
theorem witness_StaticallyIllegalIsRefused_port :
    decode ⟨0x03000000, 0⟩ = .ok .rest ∧ Port.isr ≠ .bg ∧ decode ⟨0x20000000, 0⟩ = .ok .tcalc ∧
      decode ⟨0x10000000, 0⟩ = .ok (.push 0) ∧ Port.cons ≠ .prod ∧ decode ⟨0x11000000, 0⟩ = .ok .pop ∧
      Port.prod ≠ .cons := by decide

theorem witness_HaltedCoreAnswersFaulted :
    halted.halted = true ∧ staticLegal halted.cfg halted.port (.acq 4) = true ∧
      (∀ r, Instr.acq 4 ≠ .rdreg r) ∧ ∀ w, Instr.acq 4 ≠ .push w :=
  ⟨by decide, by decide, (fun _ h => nomatch h), fun _ h => nomatch h⟩
theorem witness_HaltedCoreIgnoresTimerAndTransmitter : halted.halted = true := by decide
theorem witness_HaltedCoreIsFrozen :
    halted.halted = true ∧
      deliver (packet .prod 0x11000000 0) halted = .next (nextOf (deliver (packet .prod 0x11000000 0) halted)) ∧
      ∀ q w, packet .prod 0x11000000 0 = .command .prod q → decode q ≠ .ok (.push w) := by
  refine ⟨rfl, rfl, fun q w h => ?_⟩
  cases h
  intro hd
  cases hd

/-- A core with 254 holds at the deepest depth: one below `HCMAX`. -/
def almostFullHolds : State := { atPort .isr with hc := [0, 0, 0, 0, 254] }
/-- A core with `HCMAX` holds at the deepest depth. -/
def fullHolds : State := { atPort .isr with hc := [0, 0, 0, 0, 255] }

theorem witness_AcqAddsOneHoldOrHalts :
    almostFullHolds.port = .isr ∧ almostFullHolds.halted = false ∧ (4 : Byte).toNat < almostFullHolds.cfg.ndepth ∧
      almostFullHolds.holds 4 < almostFullHolds.cfg.hcMax ∧ fullHolds.port = .isr ∧ fullHolds.halted = false ∧
      fullHolds.holds 4 = fullHolds.cfg.hcMax := by decide
theorem witness_RelTakesOneHoldOrCounts :
    fullHolds.port = .isr ∧ fullHolds.halted = false ∧ 0 < fullHolds.holds 4 ∧ fullHolds.holds 0 = 0 := by decide
theorem witness_RestEntersShallowestHeldDepth_held :
    State.reset.port = .bg ∧ State.reset.halted = false ∧ 4 < State.reset.cfg.ndepth ∧
      ({ State.reset with hc := [0, 0, 0, 0, 7] } : State).holds 4 ≠ 0 ∧
      (∀ e, e < 4 → ({ State.reset with hc := [0, 0, 0, 0, 7] } : State).holds e = 0) ∧
      ({ State.reset with hc := [1, 5, 0, 0, 0] } : State).holds 0 ≠ 0 := by decide
theorem witness_RestEntersShallowestHeldDepth_none :
    (∀ e, e < State.reset.cfg.ndepth → State.reset.holds e = 0) ∧ 4 = State.reset.cfg.ndepth - 1 := by decide

/-- The invariant of a core without a fatal fault, from its decidable parts. -/
theorem coreInv_of_no_fault {s : State} (ha : s.cfg.Legal ∧ ArbiterInv s ∧ RestInv s) (hb : RingInv s)
    (hc : TimerInv s ∧ DrainInv s) (hd : s.fault = 0 ∧ s.faultInfo = 0) : CoreInv s :=
  ⟨ha.1, ha.2.1, ha.2.2, hb, hc.1, hc.2, .inl hd⟩

theorem witness_CoreInv_reset : CoreInv State.reset :=
  coreInv_of_no_fault (by decide) (by decide) (by decide) (by decide)

/-- Vector A5: an interleaving at both ports, every prefix balanced. -/
def balancedOps : List (Port × Instr) := [(.isr, .acq 2), (.bg, .acq 2), (.isr, .rel 2), (.isr, .acq 2), (.bg, .rel 2)]
/-- Vector A6: one acquire, then three releases. -/
def excessOps : List (Port × Instr) := [(.isr, .acq 2), (.isr, .rel 2), (.isr, .rel 2), (.bg, .rel 2)]

theorem witness_HoldReleaseBalance_balanced :
    State.reset.halted = false ∧ (2 : Byte).toNat < State.reset.cfg.ndepth ∧ State.reset.holds 2 = 0 ∧
      (∀ o ∈ balancedOps, (o.1 = .bg ∨ o.1 = .isr) ∧ (o.2 = .acq 2 ∨ o.2 = .rel 2)) ∧
      (balancedOps.map Prod.snd).count (.acq 2) ≤ State.reset.cfg.hcMax ∧
      ∀ k, ((balancedOps.map Prod.snd).take k).count (.rel 2) ≤ ((balancedOps.map Prod.snd).take k).count (.acq 2) := by
  refine ⟨by decide, by decide, by decide, by decide, by decide, fun k => ?_⟩
  match k with
  | 0 => decide
  | 1 => decide
  | 2 => decide
  | 3 => decide
  | 4 => decide
  | _ + 5 => simp [balancedOps]
theorem witness_HoldReleaseBalance_excess :
    (∀ o ∈ excessOps, (o.1 = .bg ∨ o.1 = .isr) ∧ (o.2 = .acq 2 ∨ o.2 = .rel 2)) ∧
      (excessOps.map Prod.snd).count (.acq 2) ≤ State.reset.cfg.hcMax ∧
      excessOps.map Prod.snd = List.replicate 1 (.acq 2) ++ List.replicate 3 (.rel 2) ∧ 1 < 3 := by decide

theorem witness_HoldCountersMoveByOne :
    deliver (.event .oscTick) beforePhaseA = .next (nextOf (deliver (.event .oscTick) beforePhaseA)) ∧
      Input.event .oscTick ≠ .event .reset := ⟨rfl, by decide⟩

theorem witness_PushStoresSample_same :
    (atPort .prod).port = .prod ∧ ((atPort .prod).wr + 1) % (atPort .prod).cfg.rbSize ≠ (atPort .prod).rdSeen ∧
      (atPort .prod).wr < (atPort .prod).cfg.rbSize ∧ (atPort .prod).cfg.cdc = .sameDomain ∧
      (atPort .prod).drEn = false := by decide
theorem witness_PushStoresSample_apart :
    (apartAt .prod).port = .prod ∧ ((apartAt .prod).wr + 1) % (apartAt .prod).cfg.rbSize ≠ (apartAt .prod).rdSeen ∧
      (apartAt .prod).wr < (apartAt .prod).cfg.rbSize ∧ (apartAt .prod).cfg.cdc = .twoDomain := by decide

/-- The producer's port of a core whose drain unit is enabled and disarmed, with `n` holds at its depth. -/
def drainOnWith (n : Nat) : State := { drainOn with port := .prod, hc := [0, n, 0, 0, 0] }

theorem witness_PushArmsDrainUnit (n : Nat) :
    (drainOnWith n).port = .prod ∧
      ((drainOnWith n).wr + 1) % (drainOnWith n).cfg.rbSize ≠ (drainOnWith n).rdSeen ∧
      (drainOnWith n).wr < (drainOnWith n).cfg.rbSize ∧ (drainOnWith n).cfg.cdc = .sameDomain ∧
      (drainOnWith n).halted = false ∧ (drainOnWith n).drEn = true ∧ (drainOnWith n).drActive = false ∧
      (drainOnWith n).rd ≠ ((drainOnWith n).wr + 1) % (drainOnWith n).cfg.rbSize :=
  ⟨rfl, Nat.one_ne_zero, Nat.zero_lt_succ 3, rfl, rfl, rfl, rfl, Nat.zero_ne_one⟩
theorem witness_PushArmsDrainUnit_clauses :
    (drainOnWith 254).holds (drainOnWith 254).drDepth.toNat < (drainOnWith 254).cfg.hcMax ∧
      (drainOnWith 255).holds (drainOnWith 255).drDepth.toNat = (drainOnWith 255).cfg.hcMax := by decide

theorem witness_PushOnFullIsCounted :
    full.port = .prod ∧ (full.wr + 1) % full.cfg.rbSize = full.rdSeen ∧
      (1 : BitVec 16) = (if full.dropCnt = 65535 then 65535 else full.dropCnt + 1) ∧ full.cfg.cdc = .sameDomain ∧
      ({ full with cfg := apart } : State).cfg.cdc = .twoDomain ∧
      (65535 : BitVec 16) = (if (65535 : BitVec 16) = 65535 then 65535 else 0) := by decide

/-- One sample in the buffer, seen from the consumer's port. -/
def toPop : State := { oneStored with port := .cons }

theorem witness_PopReturnsOldest :
    toPop.port = .cons ∧ toPop.halted = false ∧ toPop.drEn = false ∧ toPop.rd ≠ toPop.wrSeen ∧
      toPop.rd < toPop.cfg.rbSize ∧ toPop.cfg.cdc = .sameDomain ∧
      ({ toPop with cfg := apart } : State).cfg.cdc = .twoDomain := by decide
theorem witness_PopRefusedOrEmpty :
    (atPort .cons).port = .cons ∧ (atPort .cons).halted = false ∧ (atPort .cons).drEn = false ∧
      (atPort .cons).rd = (atPort .cons).wrSeen ∧ ({ drainOn with port := .cons } : State).drEn = true := by decide
theorem witness_MissingSlotStops_push :
    ({ atPort .prod with wr := 4 } : State).port = .prod ∧ (4 + 1) % (atPort .prod).cfg.rbSize ≠ (atPort .prod).rdSeen ∧
      (atPort .prod).cfg.rbSize ≤ 4 := by decide
theorem witness_MissingSlotStops_pop :
    (atPort .cons).port = .cons ∧ (atPort .cons).halted = false ∧ (atPort .cons).drEn = false ∧
      4 ≠ (atPort .cons).wrSeen ∧ (atPort .cons).cfg.rbSize ≤ 4 := by decide
theorem witness_MissingSlotStops_txbl :
    draining.halted = false ∧ draining.drActive = true ∧ draining.drWait = false ∧ 4 ≠ draining.wrSeen ∧
      draining.cfg.rbSize ≤ 4 := by decide

theorem witness_DeliveriesCopyTheirSource :
    State.reset.drEn = false ∧ draining.drActive = true ∧ halted.halted = true ∧ drainOn.rd = drainOn.wr := by decide
theorem witness_DeliveriesIdleInSameDomain : CoreInv full ∧ full.cfg.cdc = .sameDomain :=
  ⟨coreInv_of_no_fault (by decide) (by decide) (by decide) (by decide), by decide⟩
theorem witness_DomainsMeetOnlyAtDeliveries_core :
    (apartAt .bg).cfg.cdc = .twoDomain ∧
      deliver (packet .bg 0x03000000 0) (apartAt .bg) = .next (nextOf (deliver (packet .bg 0x03000000 0) (apartAt .bg))) ∧
      ∀ q, packet .bg 0x03000000 0 ≠ .command .prod q := ⟨rfl, rfl, fun _ h => nomatch h⟩
theorem witness_DomainsMeetOnlyAtDeliveries_producer :
    deliver (packet .prod 0x10000000 7) (apartAt .bg) =
      .next (nextOf (deliver (packet .prod 0x10000000 7) (apartAt .bg))) := rfl

theorem witness_RingBufferIsAQueue_push :
    CoreInv oneStored ∧ decode ⟨0x10000000, 0x22⟩ = .ok (.push 0x22) ∧
      seen (fun t => t.resp) (deliver (packet .prod 0x10000000 0x22) oneStored) = some (some ⟨.prod, .ok, 0⟩) :=
  ⟨coreInv_of_no_fault (by decide) (by decide) (by decide) (by decide), by decide⟩
theorem witness_RingBufferIsAQueue_pop :
    seen (fun t => t.resp) (deliver (packet .cons 0x11000000 0) oneStored) = some (some ⟨.cons, .ok, 0x11⟩) := by decide
theorem witness_RingBufferIsAQueue_transmit :
    CoreInv draining ∧ seen (fun t => t.out) (deliver (.event .txbl) draining) = some (draining.out ++ [.tx 0x41]) :=
  ⟨coreInv_of_no_fault (by decide) (by decide) (by decide) (by decide), by decide⟩
theorem witness_RingBufferIsAQueue_other :
    deliver (.event .txc) oneStored = .next (nextOf (deliver (.event .txc) oneStored)) ∧
      Input.event .txc ≠ .event .reset ∧ Input.event .txc ≠ .event .txbl := ⟨rfl, by decide, by decide⟩

/-- The smallest ring. -/
def smallRing : State := State.resetWith { Params.vectors with rbSize := 2 }

theorem witness_CapacityIsOneLessThanSize_same :
    CoreInv smallRing ∧ smallRing.halted = false ∧ smallRing.drEn = false ∧ stored smallRing = [] ∧
      smallRing.rdSeen = smallRing.rd ∧ [(0x11 : Word)].length = smallRing.cfg.rbSize - 1 :=
  ⟨coreInv_of_no_fault (by decide) (by decide) (by decide) (by decide), by decide⟩
theorem witness_CapacityIsOneLessThanSize_apart :
    CoreInv (State.resetWith apart) ∧ (State.resetWith apart).halted = false ∧ (State.resetWith apart).drEn = false ∧
      stored (State.resetWith apart) = [] ∧ (State.resetWith apart).rdSeen = (State.resetWith apart).rd ∧
      [(0xA1 : Word), 0xA2, 0xA3].length = (State.resetWith apart).cfg.rbSize - 1 :=
  ⟨coreInv_of_no_fault (by decide) (by decide) (by decide) (by decide), by decide⟩
theorem witness_PopsReturnPushesInOrder_same :
    State.reset.halted = false ∧ State.reset.drEn = false ∧ stored State.reset = [] ∧
      State.reset.rdSeen = State.reset.rd ∧ [(0x11 : Word), 0x22, 0x33].length ≤ State.reset.cfg.rbSize - 1 := by decide
theorem witness_PopsReturnPushesInOrder_apart :
    CoreInv (State.resetWith apart) ∧ (State.resetWith apart).halted = false ∧ (State.resetWith apart).drEn = false ∧
      stored (State.resetWith apart) = [] ∧ (State.resetWith apart).rdSeen = (State.resetWith apart).rd ∧
      [(1 : Word), 2, 3].length ≤ (State.resetWith apart).cfg.rbSize - 1 :=
  ⟨coreInv_of_no_fault (by decide) (by decide) (by decide) (by decide), by decide⟩

/-- A core whose domains are apart and whose three views are all stale. -/
def stale : State := { State.resetWith apart with wr := 1, rd := 1, buf := [(0, 7)], dropCnt := 1 }
/-- The deliveries of a run that cures it: each view once, and the write index over and over. -/
def curingInput : Nat → Input
  | 0 => eventInput .syncw
  | 1 => eventInput .syncr
  | 2 => eventInput .syncd
  | _ + 3 => eventInput .syncw
/-- The states of that run. -/
def curingState : Nat → State
  | 0 => stale
  | 1 => { stale with wrSeen := 1 }
  | 2 => { stale with wrSeen := 1, rdSeen := 1 }
  | _ + 3 => { stale with wrSeen := 1, rdSeen := 1, dropSeen := 1, iflags := 4 }

theorem witness_FairRunsCureStaleViews :
    IsRun curingState curingInput ∧ FairDeliveries curingState curingInput ∧
      (curingState 0).wrSeen ≠ (curingState 0).wr ∧ (curingState 0).rdSeen ≠ (curingState 0).rd ∧
      (curingState 0).dropSeen ≠ (curingState 0).dropCnt := by
  refine ⟨fun n => ?_, ⟨fun n h => ?_, fun n h => ?_, fun n h => ?_⟩, by decide, by decide, by decide⟩
  · match n with
    | 0 => rfl
    | 1 => rfl
    | 2 => rfl
    | k + 3 => simp only [curingInput, curingState]; rfl
  · match n with
    | 0 => exact ⟨0, by decide, rfl⟩
    | 1 => exact absurd rfl h
    | 2 => exact absurd rfl h
    | _ + 3 => exact absurd rfl h
  · match n with
    | 0 => exact ⟨1, by decide, rfl⟩
    | 1 => exact ⟨1, by decide, rfl⟩
    | 2 => exact absurd rfl h
    | _ + 3 => exact absurd rfl h
  · match n with
    | 0 => exact ⟨2, by decide, rfl⟩
    | 1 => exact ⟨2, by decide, rfl⟩
    | 2 => exact ⟨2, by decide, rfl⟩
    | _ + 3 => exact absurd rfl h

/-- The inputs of vector V3. -/
def vectorV3 : State :=
  { State.resetWith { Params.vectors with timerW := 16 } with
    tfreq := 32768, tratio := 0x14000, tdur := 3750, tfloor := 4 }

theorem witness_TcalcDerivesCompareValues :
    vectorV3.port = .bg ∧ vectorV3.halted = false ∧ vectorV3.run = false ∧
      153600 = vectorV3.tfreq.toNat * vectorV3.tratio.toNat * vectorV3.tdur.toNat / 65536000 ∧
      163 = vectorV3.tfreq.toNat * vectorV3.tratio.toNat * vectorV3.tfloor.toNat / 65536000 ∧
      153600 / 2 ^ 2 ≤ 2 ^ vectorV3.cfg.timerW - 1 ∧ (∀ j, j < 2 → 2 ^ vectorV3.cfg.timerW - 1 < 153600 / 2 ^ j) ∧
      2 ≤ vectorV3.cfg.prescMax ∧ 1 ≤ 163 / 2 ^ 2 ∧ 163 / 2 ^ 2 < 153600 / 2 ^ 2 := by decide
theorem witness_TcalcRejectsConfiguration_running : started.run = true ∧ started.halted = false := by decide
theorem witness_TcalcRejectsConfiguration_zero :
    State.reset.run = false ∧
      0 = State.reset.tfreq.toNat * State.reset.tratio.toNat * State.reset.tdur.toNat / 65536000 ∧
      0 = State.reset.tfreq.toNat * State.reset.tratio.toNat * State.reset.tfloor.toNat / 65536000 ∧
      0 / 2 ^ 0 ≤ 2 ^ State.reset.cfg.timerW - 1 := by decide
theorem witness_TcalcRejectsConfiguration_prescaler :
    153600 / 2 ^ 2 ≤ 2 ^ vectorV3.cfg.timerW - 1 ∧ (∀ j, j < 2 → 2 ^ vectorV3.cfg.timerW - 1 < 153600 / 2 ^ j) ∧
      ({ vectorV3 with cfg := { vectorV3.cfg with prescMax := 1 } } : State).cfg.prescMax < 2 := by decide
theorem witness_TcalcRejectsConfiguration_floor :
    ({ vectorV3 with tfloor := 0 } : State).tfloor = 0 ∧ 153600 ≠ 0 ∧ 2 ≤ vectorV3.cfg.prescMax ∧
      0 = vectorV3.tfreq.toNat * vectorV3.tratio.toNat * 0 / 65536000 ∧ 0 / 2 ^ 2 = 0 := by decide
theorem witness_PrescaleSearchIsLeast :
    153600 < 2 ^ 96 ∧ prescaleSearch vectorV3.cfg 153600 = 2 ∧ prescaleSearch vectorV3.cfg 65535 = 0 := by decide
theorem witness_TcalcResultStarts :
    seen (fun t => t.resp) (exec .tcalc vectorV3) = some (some ⟨.bg, .ok, 0⟩) := by decide
theorem witness_TstartLoadsCounter :
    ({ State.reset with tcomp0 := 2, tcomp1 := 1 } : State).port = .bg ∧
      ({ State.reset with tcomp0 := 2, tcomp1 := 1 } : State).halted = false ∧
      ({ State.reset with tcomp0 := 2, tcomp1 := 1 } : State).run = false ∧ 1 ≤ 1 ∧ 1 < 2 := by decide
theorem witness_TstartRejects :
    started.run = true ∧ started.halted = false ∧ State.reset.run = false ∧ State.reset.tcomp1 = 0 ∧
      ({ State.reset with tcomp0 := 4, tcomp1 := 4 } : State).tcomp0 ≤
        ({ State.reset with tcomp0 := 4, tcomp1 := 4 } : State).tcomp1 := by decide
theorem witness_TickCountsDown_idle : State.reset.halted = false ∧ State.reset.run = false := by decide
theorem witness_TickCountsDown_divider :
    ({ started with tpresc := 1 } : State).run = true ∧
      (({ started with tpresc := 1 } : State).pdiv + 1) % 2 ^ ({ started with tpresc := 1 } : State).tpresc.toNat ≠ 0 := by
  decide
theorem witness_TickCountsDown_count :
    started.halted = false ∧ started.run = true ∧ (started.pdiv + 1) % 2 ^ started.tpresc.toNat = 0 ∧ 1 < started.tcnt ∧
      ¬(started.tcnt - 1 = started.tcomp1 ∧ started.tstate = .exciting) := by decide
theorem witness_ReloadIsPhaseA :
    beforePhaseA.halted = false ∧ beforePhaseA.run = true ∧ (beforePhaseA.pdiv + 1) % 2 ^ beforePhaseA.tpresc.toNat = 0 ∧
      beforePhaseA.tcnt ≤ 1 ∧ beforePhaseA.holds beforePhaseA.thdepth.toNat < beforePhaseA.cfg.hcMax ∧
      ({ beforePhaseA with hc := [0, 255, 0, 0, 0] } : State).holds 1 = beforePhaseA.cfg.hcMax := by decide
theorem witness_MatchIsPhaseB :
    beforePhaseB.halted = false ∧ beforePhaseB.run = true ∧ (beforePhaseB.pdiv + 1) % 2 ^ beforePhaseB.tpresc.toNat = 0 ∧
      1 < beforePhaseB.tcnt ∧ beforePhaseB.tcnt - 1 = beforePhaseB.tcomp1 ∧ beforePhaseB.tstate = .exciting ∧
      0 = beforePhaseB.pidxB.toNat % beforePhaseB.tmodn.toNat := by decide
theorem witness_MatchIsPhaseB_clauses :
    ({ beforePhaseB with trelmask := 4 } : State).trelmask.getLsbD 0 = false ∧
      beforePhaseB.trelmask.getLsbD 0 = true ∧ 0 < beforePhaseB.holds beforePhaseB.thdepth.toNat ∧
      ({ beforePhaseB with hc := [0, 0, 0, 0, 0] } : State).holds 1 = 0 := by decide
theorem witness_PhasesFollowTheSchedule :
    CoreInv started ∧ started.halted = false ∧ started.run = true ∧ started.tstate = .idle ∧
      started.tcnt = started.tcomp0 ∧ started.pdiv = 0 ∧ started.pidxA = 0 ∧ started.pidxB = 0 ∧
      started.trelmask = 0xFFFFFFFF ∧ started.holds started.thdepth.toNat < started.cfg.hcMax ∧
      17 = 17 / 2 ^ started.tpresc.toNat :=
  ⟨coreInv_of_no_fault (by decide) (by decide) (by decide) (by decide), by decide⟩
theorem witness_RunningTimerIsFixed :
    deliver (packet .bg 0x31000035 9) started = .next (nextOf (deliver (packet .bg 0x31000035 9) started)) ∧
      started.run = true := ⟨rfl, rfl⟩

/-- The drain unit enabled in a core whose domains are apart, with one sample not delivered and `n` holds at its depth. -/
def drainApart (n : Nat) : State := { drainOn with cfg := apart, buf := [(0, 7)], wr := 1, hc := [0, n, 0, 0, 0] }

theorem witness_DeliveryArmsDrainUnit :
    (drainApart 255).halted = false ∧ (drainApart 255).drEn = true ∧ (drainApart 255).drActive = false ∧
      (drainApart 255).rd ≠ (drainApart 255).wr ∧ (drainApart 254).holds 1 < (drainApart 254).cfg.hcMax ∧
      (drainApart 255).holds 1 = (drainApart 255).cfg.hcMax := by decide
theorem witness_TransmitterEmptyDrainsOne_ignored :
    halted.halted = true ∧ State.reset.drActive = false ∧ ({ draining with drWait := true } : State).drWait = true := by
  decide
theorem witness_TransmitterEmptyDrainsOne_sends :
    draining.halted = false ∧ draining.drActive = true ∧ draining.drWait = false ∧ draining.rd ≠ draining.wrSeen ∧
      draining.rd < draining.cfg.rbSize := by decide
theorem witness_TransmitterEmptyDrainsOne_disarms :
    ({ draining with rd := 1, rdSeen := 1 } : State).rd = draining.wrSeen ∧ 0 < draining.holds 1 ∧
      ({ draining with rd := 1, rdSeen := 1, hc := [0, 0, 0, 0, 0] } : State).holds 1 = 0 := by decide
theorem witness_TransmitCompleteAndWake :
    ({ draining with drWait := true } : State).halted = false ∧ ({ draining with drWait := true } : State).drWait = true ∧
      halted.halted = true ∧ draining.drWait = false := by decide
theorem witness_DrainHoldFollowsActive_arms :
    (drainApart 0).drActive = false ∧ seen (fun t => t.drActive) (deliver (.event .syncw) (drainApart 0)) = some true ∧
      seen (fun t => t.drActive) (deliver (.event .syncw) (drainApart 255)) = some true := by decide
theorem witness_DrainHoldFollowsActive_disarms :
    draining.drActive = true ∧
      seen (fun t => t.drActive) (deliver (.event .txbl) { draining with rd := 1, rdSeen := 1 }) = some false := by decide

theorem witness_RdregAnswersEveryRegister : (atPort .isr).port = .isr ∧ 4 < (atPort .isr).cfg.ndepth ∧ 4 < 16 := by decide
theorem witness_WrregWritesEveryRegister :
    State.reset.port = .bg ∧ State.reset.halted = false ∧ State.reset.cfg.timerW ≤ 32 ∧ State.reset.run = false ∧
      State.reset.drActive = false ∧ State.reset.rd = State.reset.wrSeen := by decide
theorem witness_WrregWritesEveryRegister_values :
    (8 : Word).toNat = 8 ∧ (0xFFFFFFFF : Word).toNat < 2 ^ State.reset.cfg.timerW ∧
      (15 : Word).toNat ≤ State.reset.cfg.prescMax ∧ (32 : Word).toNat ≤ 32 ∧ 1 ≤ (1 : Word).toNat ∧
      (4 : Word).toNat < State.reset.cfg.ndepth ∧ (0 : Word).toNat = 0 ∧ (1 : Word).toNat = 1 := by decide
theorem witness_WrregEnableArmsDrainUnit :
    drainReady.port = .bg ∧ drainReady.halted = false ∧ drainReady.drActive = false ∧ drainReady.rd ≠ drainReady.wrSeen ∧
      drainReady.holds 1 < drainReady.cfg.hcMax ∧
      ({ drainReady with hc := [0, 255, 0, 0, 0] } : State).holds 1 = drainReady.cfg.hcMax := by decide
theorem witness_WrregRefusesIllegalWrites :
    State.reset.port = .bg ∧ State.reset.halted = false ∧ State.reset.cfg.ndepth ≤ 16 ∧
      (16 ≤ (0x14 : Byte).toNat ∧ (0x14 : Byte).toNat < 16 + State.reset.cfg.ndepth) ∧
      (9 : Word) &&& ~~~8 ≠ 0 ∧ ({ Params.vectors with prescMax := 3 } : Params).prescMax < (4 : Word).toNat ∧
      32 < (33 : Word).toNat ∧ State.reset.cfg.ndepth ≤ (5 : Word).toNat ∧ started.run = true ∧
      draining.drActive = true := by decide
theorem witness_FlagsClearedOnlyByIfc :
    ({ State.reset with iflags := 15 } : State).iflags.getLsbD 2 = true ∧
      seen (fun t => t.iflags.getLsbD 2) (deliver (packet .isr 0x31000051 5) { State.reset with iflags := 15 }) =
        some false := by decide

theorem witness_FirstFatalFaultStays :
    deliver (packet .prod 0x10000000 7) halted = .next (nextOf (deliver (packet .prod 0x10000000 7) halted)) ∧
      halted.halted = true := ⟨rfl, rfl⟩
theorem witness_OutputTraceGrows :
    deliver (.event .oscTick) beforePhaseA = .next (nextOf (deliver (.event .oscTick) beforePhaseA)) ∧
      deliver (.event .reset) beforePhaseB = .next (nextOf (deliver (.event .reset) beforePhaseB)) := ⟨rfl, rfl⟩
theorem witness_ResetWritesEveryElement : 0 < State.reset.cfg.ndepth := by decide
theorem witness_ResetMeetsInvariant : Params.vectors.Legal ∧ apart.Legal := by decide

/-- A state of the invariant with something in every unit, about to take a phase A. -/
def busy : State :=
  { draining with
    tcomp0 := 5, tcomp1 := 3, thdepth := 1, run := true, tcnt := 1, ien := 1, restCur := 1
    inputs := [eventInput .oscTick] }

theorem witness_StepKeepsInvariant : CoreInv busy ∧ step busy = .next (nextOf (step busy)) :=
  ⟨coreInv_of_no_fault (by decide) (by decide) (by decide) (by decide), rfl⟩
theorem witness_StepKeepsArbiterInvariant : busy.cfg.Legal ∧ ArbiterInv busy ∧ RestInv busy := by decide
theorem witness_StepKeepsRingInvariant : RingInv busy := by decide
theorem witness_StepKeepsTimerInvariant : TimerInv busy := by decide
theorem witness_StepKeepsDrainInvariant : DrainInv busy := by decide
theorem witness_InvariantStatesNeverStop : CoreInv { full with dropCnt := 65535, dropSeen := 65535 } :=
  coreInv_of_no_fault (by decide) (by decide) (by decide) (by decide)

end Sys2Proof.Tests
end

section
/-!
PROOFS for the scope of the core (`spec/00_scope.md`): which input a step takes (rules R11, R222), what the output trace
does (rule R12), and the reset state (rule R251).
-/
namespace Sys2Proof.Proofs.Scope

open Sys2Proof.Machine

/-! ## The schedule: which input a step takes -/

/-- While the processor rests, only commands at the `BG` port are not accepted (rule R222). -/
theorem acceptedWhileResting_iff {x : Input} :
    acceptedWhileResting x = true ↔ ∀ q, x ≠ .command .bg q := by
  cases x with
  | event e => simp [acceptedWhileResting]
  | command p q => cases p <;> simp [acceptedWhileResting]

/-- An input that the core accepts is taken where it heads the schedule. -/
theorem firstAccepted_cons {resting : Bool} {x : Input} (rest : List Input)
    (h : resting = false ∨ acceptedWhileResting x = true) :
    firstAccepted resting (x :: rest) = some (x, rest) := by
  rw [firstAccepted, if_neg]
  rintro ⟨hr, hx⟩
  rcases h with h | h <;> simp_all

/-- While the processor rests, commands at `BG` at the head of the schedule are passed over and stay where they stand. -/
theorem firstAccepted_held (held : List Packet) (l : List Input) :
    firstAccepted true (held.map (.command .bg) ++ l) =
      (firstAccepted true l).map (fun r => (r.1, held.map (.command .bg) ++ r.2)) := by
  induction held with
  | nil => simp
  | cons q held ih => simp [firstAccepted, acceptedWhileResting, ih, Function.comp_def]

/-- The processor rests where `REST_CUR` is not 0 (rule R22). -/
theorem resting_of_restCur_ne_zero {s : State} (h : s.restCur ≠ 0) : s.resting = true := by
  simpa [State.resting] using h

/-- The processor is awake where `REST_CUR` is 0 (rule R22). -/
theorem not_resting_of_restCur_eq_zero {s : State} (h : s.restCur = 0) : s.resting = false := by
  simpa [State.resting] using h

/-- A step takes the first accepted input off the schedule and delivers it (rule R11). -/
theorem step_of_firstAccepted {s : State} {x : Input} {rest : List Input}
    (h : firstAccepted s.resting s.inputs = some (x, rest)) :
    step s = deliver x { s with inputs := rest } := by
  rw [step, h]

/-- Where no input is accepted the state stands as it is (log entry 1). -/
theorem step_of_none_accepted {s : State} (h : firstAccepted s.resting s.inputs = none) : step s = .next s := by
  rw [step, h]

/-- A packet that decodes is executed with its port recorded and no response on the wires. -/
theorem deliver_of_decode {p : Port} {packet : Packet} {i : Instr} (s : State) (h : decode packet = .ok i) :
    deliver (.command p packet) s = exec i { s with port := p, resp := none } := by
  rw [deliver, h]
  rfl

/-- Settles O5: the step is the delivery of the first accepted input, and the delivery of a packet that decodes is `exec`. -/
theorem stepRunsDecodedCommand : Obligations.StepRunsDecodedCommand := by
  intro s p packet rest i hfirst hdecode
  rw [step_of_firstAccepted hfirst, deliver_of_decode _ hdecode]

/-- Settles O6: what `firstAccepted` picks, for an awake processor, for a resting one with something to take behind the held
commands, and for a resting one with held commands alone. -/
theorem restHoldsBackgroundCommands : Obligations.RestHoldsBackgroundCommands := by
  refine fun s => ⟨fun hawake x rest hin => ?_, fun hrest held x rest hin hx => ?_, fun hrest held hin => ?_⟩
  · apply step_of_firstAccepted
    rw [hin, firstAccepted_cons rest (.inl (not_resting_of_restCur_eq_zero hawake))]
  · apply step_of_firstAccepted
    rw [hin, resting_of_restCur_ne_zero hrest, firstAccepted_held,
      firstAccepted_cons rest (.inr (acceptedWhileResting_iff.mpr hx))]
    rfl
  · apply step_of_none_accepted
    have hnone := firstAccepted_held held []
    rw [List.append_nil] at hnone
    rw [hin, resting_of_restCur_ne_zero hrest, hnone]
    rfl

/-! ## The output trace: the shared operations record nothing -/

@[simp] theorem acquire_out (d : Nat) (s : State) : (acquire d s).out = s.out := by
  rcases acquire_cases d s with ⟨-, h⟩ | ⟨-, h⟩ <;> simp [h]

@[simp] theorem release_out (d : Nat) (s : State) : (release d s).out = s.out := by
  rcases release_cases d s with ⟨-, h⟩ | ⟨-, h⟩ <;> simp [h]

@[simp] theorem drainArm_out (s : State) : (drainArm s).out = s.out := by
  rcases drainArm_cases s with ⟨-, -, -, -, h⟩ | ⟨-, h⟩ <;> simp [h]

@[simp] theorem syncW_out (s : State) : (syncW s).out = s.out := by simp [syncW]

@[simp] theorem syncD_out (s : State) : (syncD s).out = s.out := by
  unfold syncD
  split <;> simp

@[simp] theorem advanceRead_out (s : State) : (advanceRead s).out = s.out := by
  unfold advanceRead
  split <;> simp

@[simp] theorem advanceWrite_out (s : State) : (advanceWrite s).out = s.out := by
  unfold advanceWrite
  split <;> simp

@[simp] theorem countDrop_out (s : State) : (countDrop s).out = s.out := by
  unfold countDrop
  split <;> simp

@[simp] theorem respondOkOrFaulted_out (s : State) : (respondOkOrFaulted s).out = s.out := by
  unfold respondOkOrFaulted
  split <;> simp

@[simp] theorem writeReg_out (r : Reg) (w : Word) (s : State) : (writeReg r w s).out = s.out := by
  cases r <;> simp [writeReg]

/-! ## The output trace: no command records anything -/

/-- A command that has a next state leaves the trace if its rule does: the frame of rule R109 records nothing. -/
theorem command_out {i : Instr} {body : State → Result} {s t : State} (h : command i body s = .next t)
    (hbody : ∀ u v, body u = .next v → v.out = u.out) : t.out = s.out := by
  rcases command_eq_next.mp h with ⟨-, rfl⟩ | ⟨-, -, -, rfl⟩ | ⟨-, -, u, hu, rfl⟩
  · simp
  · simp
  · simpa using hbody _ _ hu

theorem execAcq_out {d : Byte} {s t : State} (h : execAcq d s = .next t) : t.out = s.out := by
  refine command_out h fun u v hv => ?_
  cases hv
  simp

theorem execRel_out {d : Byte} {s t : State} (h : execRel d s = .next t) : t.out = s.out := by
  refine command_out h fun u v hv => ?_
  cases hv
  simp

theorem execRest_out {s t : State} (h : execRest s = .next t) : t.out = s.out := by
  refine command_out h fun u v hv => ?_
  cases hv
  simp

theorem execPush_out {w : Word} {s t : State} (h : execPush w s = .next t) : t.out = s.out := by
  refine command_out h fun u v hv => ?_
  split at hv
  · cases hv
    simp
  · obtain ⟨-, hv⟩ := atSlot_eq_next.mp hv
    cases hv
    simp

theorem execPop_out {s t : State} (h : execPop s = .next t) : t.out = s.out := by
  refine command_out h fun u v hv => ?_
  split_ifs at hv
  · cases hv
    simp
  · cases hv
    simp
  · obtain ⟨-, hv⟩ := atSlot_eq_next.mp hv
    cases hv
    simp

theorem execTcalc_out {s t : State} (h : execTcalc s = .next t) : t.out = s.out := by
  refine command_out h fun u v hv => ?_
  dsimp only at hv
  split_ifs at hv <;> cases hv <;> simp

theorem execTstart_out {s t : State} (h : execTstart s = .next t) : t.out = s.out := by
  refine command_out h fun u v hv => ?_
  split_ifs at hv <;> cases hv <;> simp

theorem execRdreg_out {r : Byte} {s t : State} (h : execRdreg r s = .next t) : t.out = s.out := by
  refine command_out h fun u v hv => ?_
  split at hv
  · cases hv
    simp
  · split at hv <;> cases hv <;> simp

theorem execWrreg_out {r : Byte} {w : Word} {s t : State} (h : execWrreg r w s = .next t) : t.out = s.out := by
  refine command_out h fun u v hv => ?_
  split at hv
  · cases hv
    simp
  · split at hv <;> cases hv <;> simp

/-- Only events record in the trace (rule R12): `act_start` and `act_stop` at a tick, `tx` at `txbl`. -/
theorem exec_out {i : Instr} {s t : State} (h : exec i s = .next t) : t.out = s.out := by
  cases i with
  | acq d => exact execAcq_out h
  | rel d => exact execRel_out h
  | rest => exact execRest_out h
  | push w => exact execPush_out h
  | pop => exact execPop_out h
  | tcalc => exact execTcalc_out h
  | tstart => exact execTstart_out h
  | rdreg r => exact execRdreg_out h
  | wrreg r w => exact execWrreg_out h

/-! ## The output trace: what the events record -/

@[simp] theorem phaseA_out (s : State) : (phaseA s).out = s.out ++ [.actStart] := by simp [phaseA]

/-- Phase B records the slot and the new polarity (rule R167). -/
@[simp] theorem phaseB_out (s : State) :
    (phaseB s).out =
      s.out ++ [.actStop (BitVec.ofNat 5 (behaviourSlot s)) (if s.polen then !s.pol else s.pol)] := by
  unfold phaseB
  by_cases h : s.trelmask.getLsbD (behaviourSlot s) <;> simp [h]

/-- A counter step records one phase or nothing (rule R165). -/
theorem counterStep_out_extends (s : State) : s.out <+: (counterStep s).out := by
  unfold counterStep
  dsimp only
  split_ifs <;> simp

theorem oscTickBody_out_extends (s : State) : s.out <+: (oscTickBody s).out := by
  unfold oscTickBody
  dsimp only
  split_ifs
  · exact List.prefix_rfl
  · exact counterStep_out_extends { s with pdiv := (s.pdiv + 1) % 2 ^ s.tpresc.toNat }
  · exact List.prefix_rfl

@[simp] theorem txcBody_out (s : State) : (txcBody s).out = s.out := by
  unfold txcBody
  split <;> rfl

/-- `txbl` records the sample it transmits, or nothing (rule R192). -/
theorem txblBody_out_extends {s t : State} (h : txblBody s = .next t) : s.out <+: t.out := by
  unfold txblBody at h
  split_ifs at h
  · cases h
    exact List.prefix_rfl
  · obtain ⟨-, h⟩ := atSlot_eq_next.mp h
    cases h
    exact List.prefix_append _ _
  · cases h
    simp

/-- An event other than reset leaves the old trace as the beginning of the new one. -/
theorem takeEvent_out_extends {e : Event} {s t : State} (h : takeEvent e s = .next t) (he : e ≠ .reset) :
    s.out <+: t.out := by
  cases e with
  | oscTick =>
    cases h
    exact oscTickBody_out_extends { s with resp := none }
  | txbl =>
    obtain ⟨u, hu, rfl⟩ := onNext_eq_next.mp h
    rw [settle_out]
    exact txblBody_out_extends (s := { s with resp := none }) hu
  | reset => exact absurd rfl he
  | txc | wakeExt | syncw | syncr | syncd =>
    cases h
    simp [wakeExtBody]

/-- The same for every input: a packet that holds no command records nothing either. -/
theorem deliver_out_extends {x : Input} {s t : State} (h : deliver x s = .next t) (hx : x ≠ .event .reset) :
    s.out <+: t.out := by
  cases x with
  | event e => exact takeEvent_out_extends h (fun he => hx (he ▸ rfl))
  | command p packet =>
    rw [deliver] at h
    split at h
    · exact (exec_out h).symm ▸ List.prefix_rfl
    · cases h
      simp [refuseUndecoded]

/-- Reset empties the trace (rule R251). -/
theorem reset_out {s t : State} (h : deliver (.event .reset) s = .next t) : t.out = [] := by
  cases h
  rfl

/-- Settles O50: every input but reset leaves the old trace as the beginning of the new one, and reset empties it. -/
theorem outputTraceGrows : Obligations.OutputTraceGrows := by
  refine fun x s t h => ⟨fun hx => ?_, fun hx => reset_out (hx ▸ h)⟩
  obtain ⟨new, hnew⟩ := deliver_out_extends h hx
  exact ⟨new, hnew.symm⟩

/-! ## The reset state, unit by unit -/

section Reset

variable {p : Params}

theorem arbiterInv_resetWith : ArbiterInv (State.resetWith p) := by
  refine ⟨List.length_replicate, fun c hc => ?_⟩
  rw [List.eq_of_mem_replicate hc]
  exact Nat.zero_le _

theorem restInv_resetWith (h : p.Legal) : RestInv (State.resetWith p) := by
  obtain ⟨⟨hdepth, -⟩, -⟩ := h
  exact ⟨show 0 < p.ndepth by omega, fun hrest => absurd rfl hrest⟩

/-- A slot is no steps from itself. -/
@[simp] theorem ringDist_self (a : Nat) : ringDist p a a = 0 := by simp [ringDist]

theorem ringInv_resetWith (h : p.Legal) : RingInv (State.resetWith p) := by
  obtain ⟨-, -, ⟨hsize, -⟩, -⟩ := h
  have hpos : 0 < p.rbSize := by omega
  refine ⟨⟨hpos, hpos, hpos, hpos⟩, Nat.le_refl _, ?_, Nat.le_refl _, fun _ => ⟨rfl, rfl, rfl⟩,
    resetWith_buf_wf p, ?_, ?_, Nat.two_pow_pos _⟩
  · simpa [State.resetWith] using hpos
  · simp [State.resetWith]
  · simp [State.resetWith]

theorem timerInv_resetWith (h : p.Legal) : TimerInv (State.resetWith p) := by
  obtain ⟨⟨hdepth, -⟩, -⟩ := h
  refine ⟨⟨Nat.zero_le _, Nat.zero_le _, Nat.zero_le _⟩, ?_, show 0 < p.ndepth by omega, ?_, ?_, ?_, ?_⟩ <;>
    simp [State.resetWith]

theorem drainInv_resetWith (h : p.Legal) : DrainInv (State.resetWith p) := by
  obtain ⟨⟨hdepth, -⟩, -⟩ := h
  refine ⟨?_, ?_, show 0 < p.ndepth by omega, ?_⟩ <;> simp [State.resetWith]

/-- The state after reset meets the invariant of every unit (rules R28, R251). -/
theorem coreInv_resetWith (h : p.Legal) : CoreInv (State.resetWith p) :=
  ⟨h, arbiterInv_resetWith, restInv_resetWith h, ringInv_resetWith h, timerInv_resetWith h, drainInv_resetWith h,
    .inl ⟨rfl, rfl⟩⟩

end Reset

/-- Settles O53: the reset state for any legal parameters, and so for those of the vectors. -/
theorem resetMeetsInvariant : Obligations.ResetMeetsInvariant :=
  ⟨fun _ hp => coreInv_resetWith hp, coreInv_resetWith (by decide)⟩

end Sys2Proof.Proofs.Scope
end

section
/-!
PROOFS, the layer that the statements about every step share: what one input can do to the state (`Effect`), said once for
all inputs with every element that it writes written out, so that an element which an outcome does not name is left by it.
-/
namespace Sys2Proof.Proofs.Effects

open Sys2Proof.Machine

/-! ## The shared operations, element by element -/

/-- The hold counters and the fault record that `Acquire(d)` leaves (rule R131). -/
def Acquires (s : State) (d : Nat) (hc : List Nat) (fault : BitVec 2) (info : Word) : Prop :=
  (s.holds d ≠ s.cfg.hcMax ∧ hc = s.hc.set d (s.holds d + 1) ∧ fault = s.fault ∧ info = s.faultInfo) ∨
    (s.holds d = s.cfg.hcMax ∧ hc = s.hc ∧ fault = s.fault ||| fatalBit .holdOvf ∧
      info = if s.fault = 0 then faultWord .holdOvf d else s.faultInfo)

theorem acquire_acquires (d : Nat) (s : State) :
    ∃ hc fault info, Acquires s d hc fault info ∧
      acquire d s = { s with hc := hc, fault := fault, faultInfo := info } := by
  rcases acquire_cases d s with ⟨hmax, h⟩ | ⟨hmax, h⟩
  · exact ⟨_, _, _, .inr ⟨hmax, rfl, rfl, rfl⟩, h⟩
  · exact ⟨_, _, _, .inl ⟨hmax, rfl, rfl, rfl⟩, h⟩

/-- The hold counters, the double-release counter and the flags that `Release(d)` leaves (rule R132). -/
def Releases (s : State) (d : Nat) (hc : List Nat) (count : BitVec 16) (flags : BitVec 4) : Prop :=
  (0 < s.holds d ∧ hc = s.hc.set d (s.holds d - 1) ∧ count = s.dblRelCnt ∧ flags = s.iflags) ∨
    (s.holds d = 0 ∧ hc = s.hc ∧ count = countEvent s.dblRelCnt ∧ flags = s.iflags ||| flagDBLREL)

theorem release_releases (d : Nat) (s : State) :
    ∃ hc count flags, Releases s d hc count flags ∧
      release d s = { s with hc := hc, dblRelCnt := count, iflags := flags } := by
  rcases release_cases d s with ⟨hheld, h⟩ | ⟨hheld, h⟩
  · exact ⟨_, _, _, .inl ⟨hheld, rfl, rfl, rfl⟩, h⟩
  · exact ⟨_, _, _, .inr ⟨hheld, rfl, rfl, rfl⟩, h⟩

/-- Whether `DrainArm` arms the drain unit (rule R191). -/
abbrev ReadyToArm (s : State) : Prop :=
  s.halted = false ∧ s.drEn = true ∧ s.drActive = false ∧ s.rd ≠ s.wrSeen

/-- The hold counters, the fault record and `DR_ACTIVE` that `DrainArm` leaves (rule R191). -/
def Arms (s : State) (hc : List Nat) (fault : BitVec 2) (info : Word) (active : Bool) : Prop :=
  (ReadyToArm s ∧ Acquires s s.drDepth.toNat hc fault info ∧ active = true) ∨
    (¬ReadyToArm s ∧ hc = s.hc ∧ fault = s.fault ∧ info = s.faultInfo ∧ active = s.drActive)

theorem drainArm_arms (s : State) :
    ∃ hc fault info active, Arms s hc fault info active ∧
      drainArm s = { s with hc := hc, fault := fault, faultInfo := info, drActive := active } := by
  rcases drainArm_cases s with ⟨hrun, hen, hidle, hview, h⟩ | ⟨hnot, h⟩
  · obtain ⟨hc, fault, info, ha, heq⟩ := acquire_acquires s.drDepth.toNat s
    exact ⟨hc, fault, info, true, .inl ⟨⟨hrun, hen, hidle, hview⟩, ha, rfl⟩, by rw [h, heq]⟩
  · exact ⟨_, _, _, _, .inr ⟨hnot, rfl, rfl, rfl, rfl⟩, h⟩

/-- What a view shows after its index became `index`: that index in `SAME_DOMAIN`, and what it showed before in `TWO_DOMAIN`
(rule R146). -/
def ViewFollows (c : CdcMode) (index old view : Nat) : Prop :=
  (c = .sameDomain ∧ view = index) ∨ (c = .twoDomain ∧ view = old)

theorem advanceRead_eq (s : State) :
    ∃ view, ViewFollows s.cfg.cdc (nextSlot s.cfg s.rd) s.rdSeen view ∧
      advanceRead s = { s with rd := nextSlot s.cfg s.rd, rdSeen := view } := by
  unfold advanceRead
  split
  · next hcdc => exact ⟨_, .inl ⟨hcdc, rfl⟩, rfl⟩
  · next hcdc => exact ⟨_, .inr ⟨hcdc, rfl⟩, rfl⟩

/-- The flags that `SyncD` leaves where the drop counter is `count` (rule R145). -/
def flagsAfterDrops (s : State) (count : BitVec 16) : BitVec 4 :=
  if s.dropSeen = count then s.iflags else s.iflags ||| flagDROP

theorem syncD_eq (s : State) :
    syncD s = { s with dropSeen := s.dropCnt, iflags := flagsAfterDrops s s.dropCnt } := by
  unfold syncD flagsAfterDrops
  by_cases h : s.dropSeen = s.dropCnt
  · rw [if_neg (not_not.mpr h), if_pos h]
    exact congrArg (fun v => { s with dropSeen := v }) h
  · rw [if_pos h, if_neg h]
    rfl

/-- `respondOkOrFaulted` writes the response alone (rule R106). -/
theorem respondOkOrFaulted_eq {s : State} {p : Port} (hp : s.port = p) :
    ∃ st, respondOkOrFaulted s = { s with resp := some ⟨p, st, 0⟩ } := by
  subst hp
  unfold respondOkOrFaulted
  split <;> exact ⟨_, rfl⟩

/-! ## What one input can do -/

/-- The state in which the rule of an input begins: a command has its port recorded and the wake of rule R109 (1) made, and no
response is on the wires. -/
def begun : Input → State → State
  | .command p _, s => wakeAtIsr (acceptAt p s)
  | .event _, s => { s with resp := none }

theorem begun_eq (x : Input) (s : State) :
    ∃ port restCur, (restCur = 0 ∨ restCur = s.restCur) ∧
      begun x s = { s with port := port, resp := none, restCur := restCur } := by
  cases x with
  | event e => exact ⟨_, _, .inr rfl, rfl⟩
  | command p q => exact ⟨p, _, ite_eq_or_eq _ _ _, rfl⟩

/-- What an input can make of the state `b` in which its rule begins, before `Settle()`: one constructor per outcome of a
command's rule (rules R109, R133 to R142, R161, R163, R200, R201) and per outcome of an event's (rules R143 to R145, R164 to
R167, R192, R193, R222, R250). An element that no invariant speaks of may be given loosely: the machine does no more than
this, by `deliver_effect`. -/
inductive Effect : Input → State → State → Prop
  | refused {p q st b} : st = .illegal ∨ st = .faulted ∨ st = .empty →
      Effect (.command p q) b { b with resp := some ⟨b.port, st, 0⟩ }
  | acq {p q d hc fault info st b} : p = .bg ∨ p = .isr → d < b.cfg.ndepth → b.halted = false →
      Acquires b d hc fault info →
      Effect (.command p q) b
        { b with hc := hc, fault := fault, faultInfo := info, resp := some ⟨b.port, st, 0⟩ }
  | rel {p q d hc count flags b} : p = .bg ∨ p = .isr → d < b.cfg.ndepth → b.halted = false →
      Releases b d hc count flags →
      Effect (.command p q) b
        { b with hc := hc, dblRelCnt := count, iflags := flags, resp := some ⟨b.port, .ok, 0⟩ }
  | rest {q b} : b.halted = false →
      Effect (.command .bg q) b
        { b with restCur := depthField (choose b), resp := some ⟨b.port, .ok, wordOfNat (choose b)⟩ }
  | dropSame {q b} : nextSlot b.cfg b.wr = b.rdSeen → b.cfg.cdc = .sameDomain →
      Effect (.command .prod q) b
        { b with
          dropCnt := countEvent b.dropCnt
          dropSeen := countEvent b.dropCnt
          iflags := flagsAfterDrops b (countEvent b.dropCnt)
          resp := some ⟨b.port, .full, 0⟩ }
  | dropApart {q b} : nextSlot b.cfg b.wr = b.rdSeen → b.cfg.cdc = .twoDomain →
      Effect (.command .prod q) b { b with dropCnt := countEvent b.dropCnt, resp := some ⟨b.port, .full, 0⟩ }
  | pushSame {q w hc fault info active b} : decode q = .ok (.push w) → nextSlot b.cfg b.wr ≠ b.rdSeen →
      b.wr < b.cfg.rbSize → b.cfg.cdc = .sameDomain →
      Arms { b with wr := nextSlot b.cfg b.wr, wrSeen := nextSlot b.cfg b.wr } hc fault info active →
      Effect (.command .prod q) b
        { b with
          buf := b.buf.write b.wr (sampleOf b.cfg w)
          wr := nextSlot b.cfg b.wr
          wrSeen := nextSlot b.cfg b.wr
          hc := hc, fault := fault, faultInfo := info, drActive := active
          resp := some ⟨b.port, .ok, 0⟩ }
  | pushApart {q w b} : decode q = .ok (.push w) → nextSlot b.cfg b.wr ≠ b.rdSeen →
      b.wr < b.cfg.rbSize → b.cfg.cdc = .twoDomain →
      Effect (.command .prod q) b
        { b with
          buf := b.buf.write b.wr (sampleOf b.cfg w)
          wr := nextSlot b.cfg b.wr
          resp := some ⟨b.port, .ok, 0⟩ }
  | pop {q view b} : b.halted = false → b.drEn = false → b.rd ≠ b.wrSeen → b.rd < b.cfg.rbSize →
      ViewFollows b.cfg.cdc (nextSlot b.cfg b.rd) b.rdSeen view →
      Effect (.command .cons q) b
        { b with rd := nextSlot b.cfg b.rd, rdSeen := view, resp := some ⟨b.port, .ok, memRead b.rd b⟩ }
  | configFault {p q code info b} : p = .bg ∨ p = .isr → b.halted = false →
      (code, info) ∈ [(FatalCode.cfgZeroPeriod, infoTCALC), (.cfgNoPrescaler, infoTCALC),
        (.cfgBadCompare, infoTCALC), (.cfgBadCompare, infoTSTART)] →
      Effect (.command p q) b
        { b with
          fault := b.fault ||| fatalBit code
          faultInfo := if b.fault = 0 then faultWord code info else b.faultInfo
          resp := some ⟨b.port, .faulted, 0⟩ }
  | tcalc {p q period floor k b} : p = .bg ∨ p = .isr → b.run = false →
      period = ticksOf b.tfreq b.tratio b.tdur → floor = ticksOf b.tfreq b.tratio b.tfloor →
      k = prescaleSearch b.cfg period → k ≤ b.cfg.prescMax → floor / 2 ^ k ≠ 0 → floor / 2 ^ k < period / 2 ^ k →
      Effect (.command p q) b
        { b with
          tcomp0 := period / 2 ^ k
          tcomp1 := period / 2 ^ k - floor / 2 ^ k
          tpresc := BitVec.ofNat 4 k
          resp := some ⟨b.port, .ok, 0⟩ }
  | tstart {p q b} : p = .bg ∨ p = .isr → b.run = false → 1 ≤ b.tcomp1 → b.tcomp1 < b.tcomp0 →
      Effect (.command p q) b
        { b with tcnt := b.tcomp0, pdiv := 0, run := true, resp := some ⟨b.port, .ok, 0⟩ }
  | rdreg {p q reg b} : p = .bg ∨ p = .isr →
      Effect (.command p q) b { b with resp := some ⟨b.port, .ok, regValue reg b⟩ }
  | wrreg {p q r w reg st b} : p = .bg ∨ p = .isr → decode q = .ok (.wrreg r w) →
      regOf b.cfg.ndepth r = some reg → writeLegal reg w b = true → reg ≠ .drctrl →
      Effect (.command p q) b { writeReg reg w b with resp := some ⟨b.port, st, 0⟩ }
  | wrregDrctrl {p q w hc fault info active st b} : p = .bg ∨ p = .isr → writeLegal .drctrl w b = true →
      Arms { b with drEn := w.getLsbD 0 } hc fault info active →
      Effect (.command p q) b
        { b with
          drEn := w.getLsbD 0
          hc := hc, fault := fault, faultInfo := info, drActive := active
          resp := some ⟨b.port, st, 0⟩ }
  | tickIgnored {b} : b.halted = true ∨ b.run = false → Effect (.event .oscTick) b b
  | tickDivided {b} : b.halted = false → b.run = true →
      Effect (.event .oscTick) b { b with pdiv := (b.pdiv + 1) % 2 ^ b.tpresc.toNat }
  | tickCounted {b} : b.halted = false → b.run = true → 1 < b.tcnt →
      ¬(b.tcnt - 1 = b.tcomp1 ∧ b.tstate = .exciting) →
      Effect (.event .oscTick) b { b with pdiv := 0, tcnt := b.tcnt - 1 }
  | phaseA {hc fault info b} : b.halted = false → b.run = true → b.tcnt ≤ 1 →
      Acquires b b.thdepth.toNat hc fault info →
      Effect (.event .oscTick) b
        { b with
          pdiv := 0
          tcnt := b.tcomp0
          hc := hc, fault := fault, faultInfo := info
          tstate := .exciting
          out := b.out ++ [.actStart]
          pidxA := b.pidxA + 1
          iflags := b.iflags ||| flagPHA }
  | phaseB {hc count flags pol b} : b.halted = false → b.run = true → 1 < b.tcnt → b.tcnt - 1 = b.tcomp1 →
      b.tstate = .exciting →
      (Releases b b.thdepth.toNat hc count flags ∨ (hc = b.hc ∧ count = b.dblRelCnt ∧ flags = b.iflags)) →
      Effect (.event .oscTick) b
        { b with
          pdiv := 0
          tcnt := b.tcnt - 1
          hc := hc, dblRelCnt := count
          tslot := BitVec.ofNat 5 (behaviourSlot b)
          pol := pol
          tstate := .idle
          out := b.out ++ [.actStop (BitVec.ofNat 5 (behaviourSlot b)) pol]
          pidxB := b.pidxB + 1
          iflags := flags ||| flagPHB }
  | txblIgnored {b} : Effect (.event .txbl) b b
  | transmit {view b} : b.drActive = true → b.rd ≠ b.wrSeen → b.rd < b.cfg.rbSize →
      ViewFollows b.cfg.cdc (nextSlot b.cfg b.rd) b.rdSeen view →
      Effect (.event .txbl) b
        { b with
          rd := nextSlot b.cfg b.rd
          rdSeen := view
          txd := memRead b.rd b
          out := b.out ++ [.tx (memRead b.rd b)]
          drWait := true }
  | disarm {hc count flags b} : b.drActive = true → b.drWait = false → b.rd = b.wrSeen →
      Releases b b.drDepth.toNat hc count flags →
      Effect (.event .txbl) b { b with hc := hc, dblRelCnt := count, iflags := flags, drActive := false }
  | txc {wait b} : wait = false ∨ wait = b.drWait → Effect (.event .txc) b { b with drWait := wait }
  | wakeExt {b} : Effect (.event .wakeExt) b { b with restCur := 0 }
  | syncw {hc fault info active b} : Arms { b with wrSeen := b.wr } hc fault info active →
      Effect (.event .syncw) b
        { b with wrSeen := b.wr, hc := hc, fault := fault, faultInfo := info, drActive := active }
  | syncr {b} : Effect (.event .syncr) b { b with rdSeen := b.rd }
  | syncd {b} : Effect (.event .syncd) b
      { b with dropSeen := b.dropCnt, iflags := flagsAfterDrops b b.dropCnt }
  | reset {b} : Effect (.event .reset) b (resetBody b)

/-! ## Every input has one of the effects -/

/-- Rule R107: every command but `PUSH` and `POP` is for `BG` or `ISR`. -/
theorem port_of_portAllows {p : Port} {i : Instr} (h : portAllows p i = true) (hpush : ∀ w, i ≠ .push w)
    (hpop : i ≠ .pop) : p = .bg ∨ p = .isr := by
  cases p with
  | bg => exact .inl rfl
  | isr => exact .inr rfl
  | prod | cons => cases i <;> simp_all [portAllows]

theorem staticLegal_iff {c : Params} {p : Port} {i : Instr} :
    staticLegal c p i = true ↔ i.wellFormed c = true ∧ portAllows p i = true := by
  rw [staticLegal, Bool.and_eq_true]

/-- What a command can do (rule R109): it is refused, or its rule has an effect on the state in which it begins. -/
theorem command_effect {p : Port} {q : Packet} {i : Instr} {body : State → Result} {s t : State}
    (h : command i body (acceptAt p s) = .next t)
    (hbody : ∀ b u, i.wellFormed b.cfg = true → portAllows p i = true →
      (b.halted = false ∨ servedWhenHalted i = true) → body b = .next u → Effect (.command p q) b u) :
    ∃ u, Effect (.command p q) (begun (.command p q) s) u ∧ t = settle u := by
  rcases command_eq_next.mp h with ⟨-, rfl⟩ | ⟨-, -, -, rfl⟩ | ⟨hl, hh, u, hu, rfl⟩
  · exact ⟨_, .refused (.inl rfl), rfl⟩
  · exact ⟨_, .refused (.inr (.inl rfl)), rfl⟩
  · obtain ⟨hwf, hport⟩ := staticLegal_iff.mp hl
    exact ⟨u, hbody _ _ hwf hport hh hu, rfl⟩

theorem execAcq_effect {p : Port} {q : Packet} {d : Byte} {s t : State} (h : execAcq d (acceptAt p s) = .next t) :
    ∃ u, Effect (.command p q) (begun (.command p q) s) u ∧ t = settle u := by
  refine command_effect h fun b u hwf hport hh hu => ?_
  obtain ⟨hc, fault, info, hacq, heq⟩ := acquire_acquires d.toNat b
  obtain ⟨st, hst⟩ := respondOkOrFaulted_eq (congrArg State.port heq)
  cases hu
  rw [hst, heq]
  exact .acq (port_of_portAllows hport (by simp) (by simp)) (by simpa [Instr.wellFormed] using hwf)
    (hh.resolve_right (by simp [servedWhenHalted])) hacq

theorem execRel_effect {p : Port} {q : Packet} {d : Byte} {s t : State} (h : execRel d (acceptAt p s) = .next t) :
    ∃ u, Effect (.command p q) (begun (.command p q) s) u ∧ t = settle u := by
  refine command_effect h fun b u hwf hport hh hu => ?_
  obtain ⟨hc, count, flags, hrel, heq⟩ := release_releases d.toNat b
  cases hu
  rw [heq]
  exact .rel (port_of_portAllows hport (by simp) (by simp)) (by simpa [Instr.wellFormed] using hwf)
    (hh.resolve_right (by simp [servedWhenHalted])) hrel

theorem execRest_effect {p : Port} {q : Packet} {s t : State} (h : execRest (acceptAt p s) = .next t) :
    ∃ u, Effect (.command p q) (begun (.command p q) s) u ∧ t = settle u := by
  refine command_effect h fun b u _ hport hh hu => ?_
  cases hu
  obtain rfl : p = .bg := by cases p <;> simp_all [portAllows]
  exact .rest (hh.resolve_right (by simp [servedWhenHalted]))

/-- A dropped sample is counted; in `SAME_DOMAIN` the view follows (rules R141, R146). -/
theorem countDrop_effect {q : Packet} {b : State} (hfull : nextSlot b.cfg b.wr = b.rdSeen) :
    Effect (.command .prod q) b (respond .full 0 (countDrop b)) := by
  unfold countDrop
  split
  · next hcdc =>
    rw [syncD_eq]
    exact .dropSame hfull hcdc
  · next hcdc => exact .dropApart hfull hcdc

/-- A sample is stored and `WR` advances; in `SAME_DOMAIN` the view follows, which may arm the drain unit (rules R141, R143,
R146). -/
theorem storeSample_effect {q : Packet} {w : Word} {b : State} (hq : decode q = .ok (.push w))
    (hfree : nextSlot b.cfg b.wr ≠ b.rdSeen) (hslot : b.wr < b.cfg.rbSize) :
    Effect (.command .prod q) b (respond .ok 0 (advanceWrite (memWrite b.wr (sampleOf b.cfg w) b))) := by
  unfold advanceWrite
  split
  · next hcdc =>
    obtain ⟨hc, fault, info, active, harms, heq⟩ := drainArm_arms
      { memWrite b.wr (sampleOf b.cfg w) b with wr := nextSlot b.cfg b.wr, wrSeen := nextSlot b.cfg b.wr }
    exact (congrArg (respond .ok 0) heq) ▸ .pushSame hq hfree hslot hcdc harms
  · next hcdc => exact .pushApart hq hfree hslot hcdc

theorem execPush_effect {p : Port} {q : Packet} {w : Word} {s t : State} (hq : decode q = .ok (.push w))
    (h : execPush w (acceptAt p s) = .next t) :
    ∃ u, Effect (.command p q) (begun (.command p q) s) u ∧ t = settle u := by
  refine command_effect h fun b u _ hport _ hu => ?_
  obtain rfl : p = .prod := by cases p <;> simp_all [portAllows]
  split at hu
  · next hfull =>
    cases hu
    exact countDrop_effect hfull
  · next hfree =>
    obtain ⟨hslot, hu⟩ := atSlot_eq_next.mp hu
    cases hu
    exact storeSample_effect hq hfree hslot

theorem execPop_effect {p : Port} {q : Packet} {s t : State} (h : execPop (acceptAt p s) = .next t) :
    ∃ u, Effect (.command p q) (begun (.command p q) s) u ∧ t = settle u := by
  refine command_effect h fun b u _ hport hh hu => ?_
  obtain rfl : p = .cons := by cases p <;> simp_all [portAllows]
  split_ifs at hu with hen hempty
  · cases hu
    exact .refused (.inl rfl)
  · cases hu
    exact .refused (.inr (.inr rfl))
  · obtain ⟨hslot, hu⟩ := atSlot_eq_next.mp hu
    cases hu
    obtain ⟨view, hview, heq⟩ := advanceRead_eq b
    rw [heq]
    exact .pop (hh.resolve_right (by simp [servedWhenHalted])) (by simpa using hen) hempty hslot hview

theorem execTcalc_effect {p : Port} {q : Packet} {s t : State} (h : execTcalc (acceptAt p s) = .next t) :
    ∃ u, Effect (.command p q) (begun (.command p q) s) u ∧ t = settle u := by
  refine command_effect h fun b u _ hport hh hu => ?_
  have hcore := port_of_portAllows hport (by simp) (by simp)
  have hrunning := hh.resolve_right (by simp [servedWhenHalted])
  dsimp only at hu
  split_ifs at hu with hrun hzero hpresc hfloor
  · cases hu
    exact .refused (.inl rfl)
  · cases hu
    exact .configFault hcore hrunning (by simp)
  · cases hu
    exact .configFault hcore hrunning (by simp)
  · cases hu
    exact .configFault hcore hrunning (by simp)
  · cases hu
    obtain ⟨hfloor, hlt⟩ := not_or.mp hfloor
    exact .tcalc hcore (by simpa using hrun) rfl rfl rfl (by omega) hfloor (by omega)

theorem execTstart_effect {p : Port} {q : Packet} {s t : State} (h : execTstart (acceptAt p s) = .next t) :
    ∃ u, Effect (.command p q) (begun (.command p q) s) u ∧ t = settle u := by
  refine command_effect h fun b u _ hport hh hu => ?_
  have hcore := port_of_portAllows hport (by simp) (by simp)
  split_ifs at hu with hrun hcomp
  · cases hu
    exact .refused (.inl rfl)
  · cases hu
    exact .tstart hcore (by simpa using hrun) hcomp.1 hcomp.2
  · cases hu
    exact .configFault hcore (hh.resolve_right (by simp [servedWhenHalted])) (by simp)

theorem execRdreg_effect {p : Port} {q : Packet} {r : Byte} {s t : State}
    (h : execRdreg r (acceptAt p s) = .next t) :
    ∃ u, Effect (.command p q) (begun (.command p q) s) u ∧ t = settle u := by
  refine command_effect h fun b u _ hport _ hu => ?_
  split at hu
  · cases hu
    exact .refused (.inl rfl)
  · split_ifs at hu
    · cases hu
      exact .refused (.inl rfl)
    · cases hu
      exact .rdreg (port_of_portAllows hport (by simp) (by simp))

@[simp] theorem writeReg_port (r : Reg) (w : Word) (s : State) : (writeReg r w s).port = s.port := by
  cases r with
  | drctrl =>
    obtain ⟨hc, fault, info, active, -, heq⟩ := drainArm_arms { s with drEn := w.getLsbD 0 }
    rw [writeReg, heq]
  | _ => rfl

/-- A legal write changes its register; a write of `DRCTRL` may arm the drain unit as well (rule R203). -/
theorem writeReg_effect {p : Port} {q : Packet} {r : Byte} {w : Word} {reg : Reg} {b : State}
    (hport : p = .bg ∨ p = .isr) (hq : decode q = .ok (.wrreg r w)) (hreg : regOf b.cfg.ndepth r = some reg)
    (hlegal : writeLegal reg w b = true) :
    Effect (.command p q) b (respondOkOrFaulted (writeReg reg w b)) := by
  obtain ⟨st, hst⟩ := respondOkOrFaulted_eq (writeReg_port reg w b)
  rw [hst]
  by_cases hdrain : reg = .drctrl
  · subst hdrain
    obtain ⟨hc, fault, info, active, harms, heq⟩ := drainArm_arms { b with drEn := w.getLsbD 0 }
    rw [writeReg, heq]
    exact .wrregDrctrl hport hlegal harms
  · exact .wrreg hport hq hreg hlegal hdrain

theorem execWrreg_effect {p : Port} {q : Packet} {r : Byte} {w : Word} {s t : State}
    (hq : decode q = .ok (.wrreg r w)) (h : execWrreg r w (acceptAt p s) = .next t) :
    ∃ u, Effect (.command p q) (begun (.command p q) s) u ∧ t = settle u := by
  refine command_effect h fun b u _ hport _ hu => ?_
  split at hu
  · cases hu
    exact .refused (.inl rfl)
  · next reg hreg =>
    split_ifs at hu with hlegal
    · cases hu
      exact .refused (.inl rfl)
    · cases hu
      exact writeReg_effect (port_of_portAllows hport (by simp) (by simp)) hq hreg (by simpa using hlegal)

/-- Every command that decodes has one of the effects. -/
theorem exec_effect {p : Port} {q : Packet} {i : Instr} {s t : State} (hq : decode q = .ok i)
    (h : exec i (acceptAt p s) = .next t) :
    ∃ u, Effect (.command p q) (begun (.command p q) s) u ∧ t = settle u := by
  cases i with
  | acq d => exact execAcq_effect h
  | rel d => exact execRel_effect h
  | rest => exact execRest_effect h
  | push w => exact execPush_effect hq h
  | pop => exact execPop_effect h
  | tcalc => exact execTcalc_effect h
  | tstart => exact execTstart_effect h
  | rdreg r => exact execRdreg_effect h
  | wrreg r w => exact execWrreg_effect hq h

theorem phaseB_effect {b : State} (hrunning : b.halted = false) (hrun : b.run = true) (hcnt : 1 < b.tcnt)
    (hmatch : b.tcnt - 1 = b.tcomp1) (hexciting : b.tstate = .exciting) :
    Effect (.event .oscTick) b (phaseB { b with pdiv := 0, tcnt := b.tcnt - 1 }) := by
  unfold phaseB
  dsimp only
  split
  · obtain ⟨hc, count, flags, hrel, heq⟩ :=
      release_releases b.thdepth.toNat { b with pdiv := 0, tcnt := b.tcnt - 1 }
    rw [heq]
    exact .phaseB hrunning hrun hcnt hmatch hexciting (.inl hrel)
  · exact .phaseB hrunning hrun hcnt hmatch hexciting (.inr ⟨rfl, rfl, rfl⟩)

/-- A tick is ignored, moves the divider, moves the counter or is one of the two phases (rules R164 to R167). -/
theorem oscTickBody_effect (b : State) : Effect (.event .oscTick) b (oscTickBody b) := by
  unfold oscTickBody counterStep
  dsimp only
  split_ifs with hignored hdiv hreload hmatch
  · exact .tickIgnored hignored
  · obtain ⟨hrunning, hrun⟩ := not_or.mp hignored
    rw [hdiv]
    obtain ⟨hc, fault, info, hacq, heq⟩ := acquire_acquires b.thdepth.toNat { b with pdiv := 0, tcnt := b.tcomp0 }
    unfold phaseA
    dsimp only
    rw [heq]
    exact .phaseA (by simpa using hrunning) (by simpa using hrun) hreload hacq
  · obtain ⟨hrunning, hrun⟩ := not_or.mp hignored
    rw [hdiv]
    exact phaseB_effect (by simpa using hrunning) (by simpa using hrun) (by omega) hmatch.1 hmatch.2
  · obtain ⟨hrunning, hrun⟩ := not_or.mp hignored
    rw [hdiv]
    exact .tickCounted (by simpa using hrunning) (by simpa using hrun) (by omega) hmatch
  · obtain ⟨hrunning, hrun⟩ := not_or.mp hignored
    exact .tickDivided (by simpa using hrunning) (by simpa using hrun)

theorem txcBody_effect (b : State) : Effect (.event .txc) b (txcBody b) := by
  unfold txcBody
  split
  · exact .txc (.inl rfl)
  · exact .txc (.inr rfl)

theorem syncW_effect (b : State) : Effect (.event .syncw) b (syncW b) := by
  obtain ⟨hc, fault, info, active, harms, heq⟩ := drainArm_arms { b with wrSeen := b.wr }
  rw [syncW, heq]
  exact .syncw harms

/-- `txbl` is ignored, transmits or disarms (rule R192). -/
theorem txblBody_effect {b u : State} (h : txblBody b = .next u) : Effect (.event .txbl) b u := by
  unfold txblBody at h
  split_ifs at h with hidle hview
  · cases h
    exact .txblIgnored
  · obtain ⟨hslot, h⟩ := atSlot_eq_next.mp h
    cases h
    simp only [not_or, Bool.not_eq_false, Bool.not_eq_true] at hidle
    obtain ⟨view, hfollows, heq⟩ := advanceRead_eq b
    rw [heq]
    exact .transmit hidle.2.1 hview hslot hfollows
  · cases h
    simp only [not_or, Bool.not_eq_false, Bool.not_eq_true] at hidle
    obtain ⟨hc, count, flags, hrel, heq⟩ := release_releases b.drDepth.toNat b
    rw [heq]
    exact .disarm hidle.2.1 hidle.2.2 (not_not.mp hview) hrel

/-- Every event has one of the effects. -/
theorem takeEvent_effect {e : Event} {s t : State} (h : takeEvent e s = .next t) :
    ∃ u, Effect (.event e) (begun (.event e) s) u ∧ t = settle u := by
  cases e with
  | oscTick => cases h; exact ⟨_, oscTickBody_effect _, rfl⟩
  | txbl =>
    obtain ⟨u, hu, rfl⟩ := onNext_eq_next.mp h
    exact ⟨u, txblBody_effect hu, rfl⟩
  | txc => cases h; exact ⟨_, txcBody_effect _, rfl⟩
  | wakeExt => cases h; exact ⟨_, .wakeExt, rfl⟩
  | syncw => cases h; exact ⟨_, syncW_effect _, rfl⟩
  | syncr => cases h; exact ⟨_, .syncr, rfl⟩
  | syncd => cases h; exact ⟨_, syncD_eq _ ▸ .syncd, rfl⟩
  | reset => cases h; exact ⟨_, .reset, rfl⟩

/-- All that the delivery of an input can do: an effect on the state in which its rule begins, then `Settle()`. -/
theorem deliver_effect {x : Input} {s t : State} (h : deliver x s = .next t) :
    ∃ u, Effect x (begun x s) u ∧ t = settle u := by
  cases x with
  | event e => exact takeEvent_effect h
  | command p q =>
    rw [deliver] at h
    split at h
    · next hq => exact exec_effect hq h
    · cases h
      exact ⟨_, .refused (.inl rfl), rfl⟩

/-- All that a step can do: nothing, where no input is accepted, or the delivery of an input (rule R11). -/
theorem step_cases {s t : State} (h : step s = .next t) :
    t = s ∨ ∃ x rest, deliver x { s with inputs := rest } = .next t := by
  unfold step at h
  split at h
  · cases h
    exact .inl rfl
  · next x rest _ => exact .inr ⟨x, rest, h⟩

/-- A relation that does not see the port, the response and the rest state, and that holds of every effect of an input, holds
of the delivery of the input. -/
theorem deliver_relates {R : State → State → Prop} {x : Input} {s t : State} (h : deliver x s = .next t)
    (hframe : ∀ s t port resp restCur restCur',
      R { s with port := port, resp := resp, restCur := restCur } { t with restCur := restCur' } ↔ R s t)
    (heffect : ∀ b u, Effect x b u → R b u) : R s t := by
  obtain ⟨u, hu, rfl⟩ := deliver_effect h
  obtain ⟨port, restCur, -, hbegun⟩ := begun_eq x s
  have hrel : R s u := (hframe s u port none restCur u.restCur).mp (hbegun ▸ heffect _ u hu)
  exact (hframe s u s.port s.resp s.restCur (settle u).restCur).mpr hrel

/-- A property that does not see the schedule, the port, the response and the rest state, and that every effect keeps, is kept
by every step. -/
theorem step_keeps {P : State → Prop} {s t : State} (h : step s = .next t) (hs : P s)
    (hframe : ∀ s inputs port resp restCur,
      P { s with inputs := inputs, port := port, resp := resp, restCur := restCur } ↔ P s)
    (heffect : ∀ x b u, Effect x b u → P b → P u) : P t := by
  rcases step_cases h with rfl | ⟨x, rest, hd⟩
  · exact hs
  · refine deliver_relates (R := fun s t => P s → P t) hd (fun s t port resp restCur restCur' => ?_)
      (heffect x) ((hframe s rest s.port s.resp s.restCur).mpr hs)
    exact imp_congr (hframe s s.inputs port resp restCur) (hframe t t.inputs t.port t.resp restCur')

/-- No step but the delivery of an input changes the parameters, and that neither (rule R20). -/
theorem Effect.cfg {x : Input} {b u : State} (h : Effect x b u) : u.cfg = b.cfg := by
  cases h with
  | @wrreg _ _ _ _ reg _ _ _ _ _ _ hne =>
    cases reg with
    | drctrl => exact absurd rfl hne
    | _ => rfl
  | _ => rfl

end Sys2Proof.Proofs.Effects
end

section
/-!
PROOFS for the sleep arbiter's part of the state (`spec/10_state.md` rules R21, R22): how far a step moves a hold counter, the
ranges of the counters, and the rest state.
-/
namespace Sys2Proof.Proofs.ArbiterUnit

open Sys2Proof.Machine Sys2Proof.Proofs.Effects

/-! ## What a step can do to the hold counters -/

/-- The counters of `s` with at most one of them moved, by one: up if it is not at `HCMAX`, or down if it is not 0. -/
def HoldsMove (s : State) (hc : List Nat) : Prop :=
  hc = s.hc ∨ ∃ d, (s.holds d ≠ s.cfg.hcMax ∧ hc = s.hc.set d (s.holds d + 1)) ∨
    (0 < s.holds d ∧ hc = s.hc.set d (s.holds d - 1))

theorem holdsMove_of_acquires {s : State} {d : Nat} {hc : List Nat} {fault : BitVec 2} {info : Word}
    (h : Acquires s d hc fault info) : HoldsMove s hc := by
  rcases h with ⟨hmax, hset, -⟩ | ⟨-, hsame, -⟩
  · exact .inr ⟨d, .inl ⟨hmax, hset⟩⟩
  · exact .inl hsame

theorem holdsMove_of_releases {s : State} {d : Nat} {hc : List Nat} {count : BitVec 16} {flags : BitVec 4}
    (h : Releases s d hc count flags) : HoldsMove s hc := by
  rcases h with ⟨hheld, hset, -⟩ | ⟨-, hsame, -⟩
  · exact .inr ⟨d, .inr ⟨hheld, hset⟩⟩
  · exact .inl hsame

theorem holdsMove_of_arms {s : State} {hc : List Nat} {fault : BitVec 2} {info : Word} {active : Bool}
    (h : Arms s hc fault info active) : HoldsMove s hc := by
  rcases h with ⟨-, hacq, -⟩ | ⟨-, hsame, -⟩
  · exact holdsMove_of_acquires hacq
  · exact .inl hsame

/-- No effect but reset moves the hold counters otherwise (rules R21, R131, R132). -/
theorem holdsMove_of_effect {x : Input} {b u : State} (h : Effect x b u) (hx : x ≠ .event .reset) :
    HoldsMove b u.hc := by
  cases h with
  | acq _ _ _ hacq | phaseA _ _ _ hacq => exact holdsMove_of_acquires hacq
  | rel _ _ _ hrel | disarm _ _ _ hrel => exact holdsMove_of_releases hrel
  | pushSame _ _ _ _ harms | wrregDrctrl _ _ harms | syncw harms => exact (holdsMove_of_arms harms :)
  | phaseB _ _ _ _ _ hrel => exact hrel.elim holdsMove_of_releases (fun hsame => .inl hsame.1)
  | @wrreg _ _ _ _ reg _ _ _ _ _ _ hne =>
    cases reg with
    | drctrl => exact absurd rfl hne
    | _ => exact .inl rfl
  | reset => exact absurd rfl hx
  | _ => exact .inl rfl

/-! ## One counter moves by one at most -/

theorem getD_set (hc : List Nat) (d v k : Nat) :
    (hc.set d v).getD k 0 = if d = k ∧ d < hc.length then v else hc.getD k 0 := by
  simp only [List.getD_eq_getElem?_getD, List.getElem?_set]
  by_cases hdk : d = k
  · subst hdk
    by_cases hd : d < hc.length <;> simp [hd]
  · simp [hdk]

/-- Settles O15: no effect moves a counter by more than one. -/
theorem holdCountersMoveByOne : Obligations.HoldCountersMoveByOne := by
  intro x s t k hdeliver hx
  refine deliver_relates (R := fun s t => t.holds k ≤ s.holds k + 1 ∧ s.holds k ≤ t.holds k + 1) hdeliver
    (fun _ _ _ _ _ _ => Iff.rfl) (fun b u hu => ?_)
  have hmove : HoldsMove b u.hc := holdsMove_of_effect hu hx
  show u.hc.getD k 0 ≤ b.hc.getD k 0 + 1 ∧ b.hc.getD k 0 ≤ u.hc.getD k 0 + 1
  rcases hmove with hsame | ⟨d, ⟨-, hup⟩ | ⟨-, hdown⟩⟩
  · rw [hsame]
    omega
  · rw [hup, getD_set, State.holds]
    split_ifs with hk
    · obtain ⟨rfl, -⟩ := hk
      omega
    · omega
  · rw [hdown, getD_set, State.holds]
    split_ifs with hk
    · obtain ⟨rfl, -⟩ := hk
      omega
    · omega

/-! ## The ranges of the counters and of the rest state -/

theorem holds_le_hcMax {s : State} (h : ArbiterInv s) (d : Nat) : s.holds d ≤ s.cfg.hcMax := by
  obtain ⟨-, hmax⟩ := h
  unfold State.holds
  rw [List.getD_eq_getElem?_getD]
  cases hd : s.hc[d]? with
  | none => exact Nat.zero_le _
  | some c => exact hmax c (List.mem_of_getElem? hd)

theorem arbiterInv_of_holdsMove {s t : State} (h : ArbiterInv s) (hcfg : t.cfg = s.cfg)
    (hmove : HoldsMove s t.hc) : ArbiterInv t := by
  obtain ⟨hlen, hmax⟩ := id h
  rw [ArbiterInv, hcfg]
  rcases hmove with hsame | ⟨d, ⟨hroom, hup⟩ | ⟨-, hdown⟩⟩
  · exact hsame ▸ h
  · refine ⟨by rw [hup, List.length_set, hlen], fun c hc => ?_⟩
    rcases List.mem_or_eq_of_mem_set (hup ▸ hc) with hc | rfl
    · exact hmax c hc
    · exact Nat.lt_of_le_of_ne (holds_le_hcMax h d) hroom
  · refine ⟨by rw [hdown, List.length_set, hlen], fun c hc => ?_⟩
    rcases List.mem_or_eq_of_mem_set (hdown ▸ hc) with hc | rfl
    · exact hmax c hc
    · exact Nat.le_trans (Nat.sub_le _ _) (holds_le_hcMax h d)

theorem arbiterInv_of_effect {x : Input} {b u : State} (hu : Effect x b u) (h : ArbiterInv b) : ArbiterInv u := by
  by_cases hx : x = .event .reset
  · subst hx
    cases hu
    exact Scope.arbiterInv_resetWith (p := b.cfg)
  · exact arbiterInv_of_holdsMove h hu.cfg (holdsMove_of_effect hu hx)

theorem arbiterInv_of_step {s t : State} (h : step s = .next t) (hs : ArbiterInv s) : ArbiterInv t :=
  step_keeps h hs (fun _ _ _ _ _ => Iff.rfl) (fun _ _ _ => arbiterInv_of_effect)

/-- `Choose()` names a depth (rule R130). -/
theorem choose_lt {s : State} (h : 0 < s.cfg.ndepth) : choose s < s.cfg.ndepth := by
  unfold choose
  cases hfind : (List.range s.cfg.ndepth).find? (fun d => s.holds d != 0) with
  | none => exact Nat.sub_lt h one_pos
  | some d => exact List.mem_range.mp (List.mem_of_find?_eq_some hfind)

/-- The rest state of an effect is a depth if the one before was (rule R22). -/
theorem restCur_lt_of_effect {x : Input} {b u : State} (hu : Effect x b u) (hlegal : b.cfg.Legal)
    (h : b.restCur.toNat < b.cfg.ndepth) : u.restCur.toNat < u.cfg.ndepth := by
  obtain ⟨⟨hdepth, -⟩, -⟩ := hlegal
  have hpos : 0 < b.cfg.ndepth := by omega
  cases hu with
  | rest _ =>
    show (BitVec.ofNat 4 (choose b)).toNat < b.cfg.ndepth
    rw [BitVec.toNat_ofNat]
    exact Nat.lt_of_le_of_lt (Nat.mod_le _ _) (choose_lt hpos)
  | wakeExt | reset => exact hpos
  | @wrreg _ _ _ _ reg _ _ _ _ _ _ hne =>
    cases reg with
    | drctrl => exact absurd rfl hne
    | _ => exact h
  | _ => exact h

/-- `Settle()` gives the rule of the rest state (rule R221, property Q2). -/
theorem restInv_settle {u : State} (hpos : 0 < u.cfg.ndepth) (h : u.restCur.toNat < u.cfg.ndepth) :
    RestInv (settle u) := by
  show (settle u).restCur.toNat < u.cfg.ndepth ∧ ((settle u).restCur ≠ 0 → u.irq = false ∧ u.halted = false)
  rw [settle_restCur]
  split_ifs with hpending
  · exact ⟨hpos, fun hrest => absurd rfl hrest⟩
  · exact ⟨h, fun _ => by simpa using hpending⟩

theorem restInv_of_step {s t : State} (h : step s = .next t) (hlegal : s.cfg.Legal) (hs : RestInv s) :
    RestInv t := by
  rcases step_cases h with rfl | ⟨x, rest, hd⟩
  · exact hs
  · obtain ⟨u, hu, rfl⟩ := deliver_effect hd
    obtain ⟨port, restCur, hrest, hbegun⟩ := begun_eq x { s with inputs := rest }
    rw [hbegun] at hu
    have hpos : 0 < s.cfg.ndepth := by
      obtain ⟨⟨hdepth, -⟩, -⟩ := hlegal
      omega
    have hbefore : restCur.toNat < s.cfg.ndepth := by
      rcases hrest with rfl | rfl
      · exact hpos
      · exact hs.1
    exact restInv_settle (hu.cfg ▸ hpos) (restCur_lt_of_effect hu hlegal hbefore)

/-- Settles O54: the counters by what an effect does to them, the rest state by `Settle()`. -/
theorem stepKeepsArbiterInvariant : Obligations.StepKeepsArbiterInvariant :=
  fun _ _ hlegal harb hrest hstep => ⟨arbiterInv_of_step hstep harb, restInv_of_step hstep hlegal hrest⟩

end Sys2Proof.Proofs.ArbiterUnit
end

section
/-!
PROOFS for the ring buffer's part of the state (`spec/10_state.md` rules R24 to R28): distances on the circle of slots, the
invariant that every step keeps, and the buffer as a queue.
-/
namespace Sys2Proof.Proofs.RingUnit

open Sys2Proof.Machine Sys2Proof.Proofs.Effects

/-! ## Slots on the circle -/

section Circle

variable {p : Params} {a b c k : Nat}

/-- A distance without its remainder: forward within the store, or around its end. -/
theorem ringDist_cases (ha : a < p.rbSize) (hb : b < p.rbSize) :
    (a ≤ b ∧ ringDist p a b = b - a) ∨ (b < a ∧ ringDist p a b = b + p.rbSize - a) := by
  unfold ringDist
  rcases Nat.lt_or_ge b a with hlt | hge
  · exact .inr ⟨hlt, Nat.mod_eq_of_lt (by omega)⟩
  · refine .inl ⟨hge, ?_⟩
    rw [show b + p.rbSize - a = b - a + p.rbSize by omega, Nat.add_mod_right, Nat.mod_eq_of_lt (by omega)]

/-- A slot some steps forward, without its remainder. -/
theorem slot_cases (ha : a < p.rbSize) (hk : k < p.rbSize) :
    (a + k < p.rbSize ∧ (a + k) % p.rbSize = a + k) ∨
      (p.rbSize ≤ a + k ∧ (a + k) % p.rbSize = a + k - p.rbSize) := by
  rcases Nat.lt_or_ge (a + k) p.rbSize with hlt | hge
  · exact .inl ⟨hlt, Nat.mod_eq_of_lt hlt⟩
  · exact .inr ⟨hge, by rw [Nat.mod_eq_sub_mod hge, Nat.mod_eq_of_lt (by omega)]⟩

theorem nextSlot_cases (ha : a < p.rbSize) :
    (a + 1 < p.rbSize ∧ nextSlot p a = a + 1) ∨ (a + 1 = p.rbSize ∧ nextSlot p a = 0) := by
  unfold nextSlot
  rcases Nat.lt_or_ge (a + 1) p.rbSize with hlt | hge
  · exact .inl ⟨hlt, Nat.mod_eq_of_lt hlt⟩
  · have heq : a + 1 = p.rbSize := by omega
    exact .inr ⟨heq, by rw [heq, Nat.mod_self]⟩

theorem nextSlot_lt (ha : a < p.rbSize) : nextSlot p a < p.rbSize := Nat.mod_lt _ (by omega)

theorem ringDist_lt (ha : a < p.rbSize) : ringDist p a b < p.rbSize := Nat.mod_lt _ (by omega)

theorem ringDist_pos (ha : a < p.rbSize) (hb : b < p.rbSize) (hne : a ≠ b) : 0 < ringDist p a b := by
  rcases ringDist_cases ha hb with h | h <;> omega

theorem ringDist_add (ha : a < p.rbSize) (hb : b < p.rbSize) (hc : c < p.rbSize)
    (hsum : ringDist p a b + ringDist p b c < p.rbSize) :
    ringDist p a c = ringDist p a b + ringDist p b c := by
  rcases ringDist_cases ha hb with h1 | h1 <;> rcases ringDist_cases hb hc with h2 | h2 <;>
    rcases ringDist_cases ha hc with h3 | h3 <;> omega

/-- A step forward of the far end is one step more, unless it reaches the near end. -/
theorem ringDist_nextSlot_right (ha : a < p.rbSize) (hb : b < p.rbSize) (hroom : ringDist p a b + 1 < p.rbSize) :
    ringDist p a (nextSlot p b) = ringDist p a b + 1 := by
  rcases ringDist_cases ha hb with h1 | h1 <;> rcases ringDist_cases ha (nextSlot_lt hb) with h2 | h2 <;>
    rcases nextSlot_cases hb with h3 | h3 <;> omega

/-- A step forward of the near end is one step less, unless the two are equal. -/
theorem ringDist_nextSlot_left (ha : a < p.rbSize) (hb : b < p.rbSize) (hne : a ≠ b) :
    ringDist p (nextSlot p a) b + 1 = ringDist p a b := by
  rcases ringDist_cases ha hb with h1 | h1 <;> rcases ringDist_cases (nextSlot_lt ha) hb with h2 | h2 <;>
    rcases nextSlot_cases ha with h3 | h3 <;> omega

/-- Where the next slot is not `a` there is room for one step more. -/
theorem ringDist_lt_of_nextSlot_ne (ha : a < p.rbSize) (hb : b < p.rbSize) (hne : nextSlot p b ≠ a) :
    ringDist p a b + 1 < p.rbSize := by
  rcases ringDist_cases ha hb with h1 | h1 <;> rcases nextSlot_cases hb with h2 | h2 <;> omega

/-- The slot `k` steps forward from `a` is `b` for `k` the distance alone. -/
theorem slot_eq_iff (ha : a < p.rbSize) (hb : b < p.rbSize) (hk : k < p.rbSize) :
    (a + k) % p.rbSize = b ↔ k = ringDist p a b := by
  rcases slot_cases ha hk with h1 | h1 <;> rcases ringDist_cases ha hb with h2 | h2 <;> omega

/-- The slots forward from the next slot are those forward from the slot, but for the first. -/
theorem slot_nextSlot : (nextSlot p a + k) % p.rbSize = (a + (k + 1)) % p.rbSize := by
  rw [nextSlot, Nat.mod_add_mod, Nat.add_assoc, Nat.add_comm 1 k]

end Circle

/-! ## The invariant -/

/-- A sample read is a sample (rule R81). -/
theorem memRead_lt {s : State} (h : RingInv s) (i : Nat) : (memRead i s).toNat < 2 ^ s.cfg.sampleW := by
  obtain ⟨-, -, -, -, -, -, hsamples, -⟩ := h
  rcases memRead_cases i s with hlisted | ⟨-, hfree⟩
  · exact (hsamples _ (Memory.mem_of_read? hlisted)).2
  · exact hfree

/-- An accepted push keeps the invariant (rules R141, R146). -/
theorem ringInv_push {b : State} {w : Word} {view : Nat} (h : RingInv b)
    (hfree : nextSlot b.cfg b.wr ≠ b.rdSeen)
    (hview : ViewFollows b.cfg.cdc (nextSlot b.cfg b.wr) b.wrSeen view) :
    RingInv { b with
      buf := b.buf.write b.wr (sampleOf b.cfg w), wr := nextSlot b.cfg b.wr, wrSeen := view } := by
  obtain ⟨⟨hwr, hrd, hwrSeen, hrdSeen⟩, hseen, hroom, hdrop, hsame, hwf, hsamples, hvalues, htxd⟩ := h
  have hspan : ringDist b.cfg b.rdSeen b.wr + 1 < b.cfg.rbSize :=
    ringDist_lt_of_nextSlot_ne hrdSeen hwr hfree
  rw [ringDist_add hrdSeen hrd hwr hroom] at hspan
  have hdist : ringDist b.cfg b.rd (nextSlot b.cfg b.wr) = ringDist b.cfg b.rd b.wr + 1 :=
    ringDist_nextSlot_right hrd hwr (by omega)
  refine ⟨⟨nextSlot_lt hwr, hrd, ?_, hrdSeen⟩, ?_, ?_, hdrop, ?_, Memory.wf_write hwf _ _, ?_, ?_, htxd⟩
  · rcases hview with ⟨-, rfl⟩ | ⟨-, rfl⟩
    · exact nextSlot_lt hwr
    · exact hwrSeen
  · show ringDist b.cfg b.rd view ≤ ringDist b.cfg b.rd (nextSlot b.cfg b.wr)
    rcases hview with ⟨-, rfl⟩ | ⟨-, rfl⟩
    · exact Nat.le_refl _
    · omega
  · show ringDist b.cfg b.rdSeen b.rd + ringDist b.cfg b.rd (nextSlot b.cfg b.wr) < b.cfg.rbSize
    omega
  · intro hcdc
    rcases hview with ⟨-, rfl⟩ | ⟨hapart, -⟩
    · exact ⟨rfl, (hsame hcdc).2⟩
    · exact absurd (hcdc.symm.trans hapart) (by decide)
  · intro c hc
    rcases Memory.mem_write hc with rfl | hc
    · exact ⟨hwr, sampleOf_lt _ _⟩
    · exact hsamples c hc
  · intro k hk
    change k < ringDist b.cfg b.rd (nextSlot b.cfg b.wr) at hk
    show ((b.buf.write b.wr (sampleOf b.cfg w)).read? ((b.rd + k) % b.cfg.rbSize)).isSome = true
    rw [Memory.read?_write]
    split_ifs with hslot
    · rfl
    · rw [slot_eq_iff hrd hwr (by omega)] at hslot
      exact hvalues k (by omega)

/-- A pop or a transmission keeps the invariant (rules R142, R146, R192). -/
theorem ringInv_take {b : State} {view : Nat} {v : Word} (h : RingInv b) (hne : b.rd ≠ b.wrSeen)
    (hview : ViewFollows b.cfg.cdc (nextSlot b.cfg b.rd) b.rdSeen view) (hv : v.toNat < 2 ^ b.cfg.sampleW) :
    RingInv { b with rd := nextSlot b.cfg b.rd, rdSeen := view, txd := v } := by
  obtain ⟨⟨hwr, hrd, hwrSeen, hrdSeen⟩, hseen, hroom, hdrop, hsame, hwf, hsamples, hvalues, -⟩ := h
  have hpos : 0 < ringDist b.cfg b.rd b.wrSeen := ringDist_pos hrd hwrSeen hne
  have hwrNe : b.rd ≠ b.wr := by
    intro heq
    rw [← heq, Scope.ringDist_self] at hseen
    omega
  have hwrSeenDist := ringDist_nextSlot_left hrd hwrSeen hne
  have hwrDist := ringDist_nextSlot_left hrd hwr hwrNe
  have hrdSeenDist : ringDist b.cfg b.rdSeen (nextSlot b.cfg b.rd) = ringDist b.cfg b.rdSeen b.rd + 1 :=
    ringDist_nextSlot_right hrdSeen hrd (by omega)
  refine ⟨⟨hwr, nextSlot_lt hrd, hwrSeen, ?_⟩, ?_, ?_, hdrop, ?_, hwf, hsamples, ?_, hv⟩
  · rcases hview with ⟨-, rfl⟩ | ⟨-, rfl⟩
    · exact nextSlot_lt hrd
    · exact hrdSeen
  · show ringDist b.cfg (nextSlot b.cfg b.rd) b.wrSeen ≤ ringDist b.cfg (nextSlot b.cfg b.rd) b.wr
    omega
  · show ringDist b.cfg view (nextSlot b.cfg b.rd) + ringDist b.cfg (nextSlot b.cfg b.rd) b.wr < b.cfg.rbSize
    rcases hview with ⟨-, rfl⟩ | ⟨-, rfl⟩
    · rw [Scope.ringDist_self]
      omega
    · omega
  · intro hcdc
    rcases hview with ⟨-, rfl⟩ | ⟨hapart, -⟩
    · exact ⟨(hsame hcdc).1, rfl, (hsame hcdc).2.2⟩
    · exact absurd (hcdc.symm.trans hapart) (by decide)
  · intro k hk
    change k < ringDist b.cfg (nextSlot b.cfg b.rd) b.wr at hk
    show (b.buf.read? ((nextSlot b.cfg b.rd + k) % b.cfg.rbSize)).isSome = true
    rw [slot_nextSlot]
    exact hvalues (k + 1) (by omega)

/-- An event counter does not fall (rules R23, R27). -/
theorem toNat_le_countEvent (c : BitVec 16) : c.toNat ≤ (countEvent c).toNat := by
  unfold countEvent evtMax
  split_ifs
  · bv_omega
  · exact Nat.le_refl _

theorem ringInv_of_effect {x : Input} {b u : State} (hu : Effect x b u) (hlegal : b.cfg.Legal) (h : RingInv b) :
    RingInv u := by
  have hinv := h
  obtain ⟨⟨hwr, hrd, hwrSeen, hrdSeen⟩, hseen, hroom, hdrop, hsame, hwf, hsamples, hvalues, htxd⟩ := h
  cases hu with
  | dropSame _ hcdc =>
    exact ⟨⟨hwr, hrd, hwrSeen, hrdSeen⟩, hseen, hroom, Nat.le_refl _,
      fun _ => ⟨(hsame hcdc).1, (hsame hcdc).2.1, rfl⟩, hwf, hsamples, hvalues, htxd⟩
  | dropApart _ hcdc =>
    exact ⟨⟨hwr, hrd, hwrSeen, hrdSeen⟩, hseen, hroom, Nat.le_trans hdrop (toNat_le_countEvent _),
      fun hcdc' => absurd (hcdc'.symm.trans hcdc) (by decide), hwf, hsamples, hvalues, htxd⟩
  | pushSame _ hfree _ hcdc _ => exact (ringInv_push hinv hfree (.inl ⟨hcdc, rfl⟩) :)
  | pushApart _ hfree _ hcdc => exact (ringInv_push hinv hfree (.inr ⟨hcdc, rfl⟩) :)
  | pop _ _ hne _ hview => exact (ringInv_take hinv hne hview htxd :)
  | transmit _ hne _ hview => exact (ringInv_take hinv hne hview (memRead_lt hinv _) :)
  | syncw _ =>
    exact ⟨⟨hwr, hrd, hwr, hrdSeen⟩, Nat.le_refl _, hroom, hdrop, fun hcdc => ⟨rfl, (hsame hcdc).2⟩, hwf, hsamples,
      hvalues, htxd⟩
  | syncr =>
    refine ⟨⟨hwr, hrd, hwrSeen, hrd⟩, hseen, ?_, hdrop, fun hcdc => ⟨(hsame hcdc).1, rfl, (hsame hcdc).2.2⟩, hwf,
      hsamples, hvalues, htxd⟩
    show ringDist b.cfg b.rd b.rd + ringDist b.cfg b.rd b.wr < b.cfg.rbSize
    rw [Scope.ringDist_self]
    omega
  | syncd =>
    exact ⟨⟨hwr, hrd, hwrSeen, hrdSeen⟩, hseen, hroom, Nat.le_refl _,
      fun hcdc => ⟨(hsame hcdc).1, (hsame hcdc).2.1, rfl⟩, hwf, hsamples, hvalues, htxd⟩
  | reset => exact Scope.ringInv_resetWith hlegal
  | @wrreg _ _ _ _ reg _ _ _ _ _ _ hne =>
    cases reg with
    | drctrl => exact absurd rfl hne
    | _ => exact hinv
  | _ => exact hinv

/-- Settles O55: every effect keeps the invariant of the ring buffer. -/
theorem stepKeepsRingInvariant : Obligations.StepKeepsRingInvariant := by
  intro s t hlegal hring hstep
  have hkept : t.cfg.Legal ∧ RingInv t :=
    step_keeps (P := fun s => s.cfg.Legal ∧ RingInv s) hstep ⟨hlegal, hring⟩ (fun _ _ _ _ _ => Iff.rfl)
      (fun x b u hu hb => ⟨hu.cfg ▸ hb.1, ringInv_of_effect hu hb.1 hb.2⟩)
  exact hkept.2

/-! ## The buffer as a queue -/

/-- A write of another slot leaves what a slot reads as. -/
theorem memRead_memWrite_of_ne {i j : Nat} {v : Word} {s : State} (h : j ≠ i) :
    memRead j (memWrite i v s) = memRead j s := by
  simp only [memRead, memWrite_buf, memWrite_cfg, memWrite_powerUps, Memory.read?_write, if_neg h]

theorem memRead_memWrite_self {i : Nat} {v : Word} {s : State} : memRead i (memWrite i v s) = v := by
  simp [memRead, Memory.read?_write]

/-- A push appends its sample: the slot written is the one after the last stored sample (rules R28, R141). -/
theorem stored_push {b : State} {v : Word} (h : RingInv b) (hfree : nextSlot b.cfg b.wr ≠ b.rdSeen) :
    stored { memWrite b.wr v b with wr := nextSlot b.cfg b.wr } = stored b ++ [v] := by
  obtain ⟨⟨hwr, hrd, -, hrdSeen⟩, -, hroom, -⟩ := h
  have hspan : ringDist b.cfg b.rdSeen b.wr + 1 < b.cfg.rbSize :=
    ringDist_lt_of_nextSlot_ne hrdSeen hwr hfree
  rw [ringDist_add hrdSeen hrd hwr hroom] at hspan
  have hdist : ringDist b.cfg b.rd (nextSlot b.cfg b.wr) = ringDist b.cfg b.rd b.wr + 1 :=
    ringDist_nextSlot_right hrd hwr (by omega)
  show (List.range (ringDist b.cfg b.rd (nextSlot b.cfg b.wr))).map
      (fun k => memRead ((b.rd + k) % b.cfg.rbSize) (memWrite b.wr v b)) = stored b ++ [v]
  rw [hdist, List.range_succ, List.map_append, List.map_singleton,
    (slot_eq_iff hrd hwr (ringDist_lt hrd)).mpr rfl, memRead_memWrite_self]
  refine congrArg (· ++ [v]) (List.map_congr_left fun k hk => memRead_memWrite_of_ne fun hslot => ?_)
  rw [List.mem_range] at hk
  rw [slot_eq_iff hrd hwr (by omega)] at hslot
  omega

/-- A pop or a transmission takes the oldest sample (rules R28, R142, R192). -/
theorem stored_take {b : State} (h : RingInv b) (hne : b.rd ≠ b.wrSeen) :
    stored b = memRead b.rd b :: stored { b with rd := nextSlot b.cfg b.rd } := by
  obtain ⟨⟨hwr, hrd, hwrSeen, -⟩, hseen, -⟩ := h
  have hpos : 0 < ringDist b.cfg b.rd b.wrSeen := ringDist_pos hrd hwrSeen hne
  have hwrNe : b.rd ≠ b.wr := by
    intro heq
    rw [← heq, Scope.ringDist_self] at hseen
    omega
  have hdist := ringDist_nextSlot_left hrd hwr hwrNe
  show (List.range (ringDist b.cfg b.rd b.wr)).map (fun k => memRead ((b.rd + k) % b.cfg.rbSize) b) =
    memRead b.rd b :: (List.range (ringDist b.cfg (nextSlot b.cfg b.rd) b.wr)).map
      (fun k => memRead ((nextSlot b.cfg b.rd + k) % b.cfg.rbSize) b)
  rw [← hdist, List.range_succ_eq_map, List.map_cons, List.map_map, Nat.add_zero, Nat.mod_eq_of_lt hrd]
  simp only [Function.comp_def, slot_nextSlot, Nat.succ_eq_add_one]

/-- What an input does to the queue of stored samples (rules R28, R148). -/
inductive QueueMove (x : Input) (s t : State) : Prop
  | appends {q w} (hx : x = .command .prod q) (hq : decode q = .ok (.push w)) (hok : t.resp = some ⟨.prod, .ok, 0⟩)
      (h : stored t = stored s ++ [sampleOf s.cfg w])
  | pops {q v} (hx : x = .command .cons q) (hok : t.resp = some ⟨.cons, .ok, v⟩) (h : stored s = v :: stored t)
  | transmits {v} (hx : x = .event .txbl) (hout : t.out = s.out ++ [.tx v]) (h : stored s = v :: stored t)
  | resets (hx : x = .event .reset)
  | keeps (hresp : ∀ p q v, x = .command p q → p = .prod ∨ p = .cons → t.resp ≠ some ⟨p, .ok, v⟩)
      (hout : x = .event .txbl → t.out = s.out) (h : stored t = stored s)

/-- A command for `BG` or `ISR` is no push and no pop. -/
theorem queueMove_of_core_port {p : Port} {q : Packet} {b u : State} (hp : p = .bg ∨ p = .isr)
    (h : stored u = stored b) : QueueMove (.command p q) b u := by
  refine .keeps (fun p' q' v hx hp' => ?_) (fun hx => Input.noConfusion hx) h
  cases hx
  rcases hp with rfl | rfl <;> simp at hp'

theorem queueMove_of_not_ok {p : Port} {q : Packet} {st : Status} {b u : State} (hst : st ≠ .ok)
    (hresp : u.resp = some ⟨b.port, st, 0⟩) (h : stored u = stored b) : QueueMove (.command p q) b u := by
  refine .keeps (fun p' q' v _ _ hok => hst ?_) (fun hx => Input.noConfusion hx) h
  rw [hresp] at hok
  cases hok
  rfl

theorem queueMove_of_event {e : Event} {b u : State} (hout : e = .txbl → u.out = b.out)
    (h : stored u = stored b) : QueueMove (.event e) b u :=
  .keeps (fun _ _ _ hx => Input.noConfusion hx) (fun hx => hout (Input.event.inj hx)) h

/-- Every effect is one of the moves of the queue. -/
theorem queueMove_of_effect {x : Input} {b u : State} (hu : Effect x b u)
    (hport : ∀ p q, x = .command p q → b.port = p) (h : RingInv b) : QueueMove x b u := by
  cases hu with
  | refused hst => exact queueMove_of_not_ok (by rcases hst with rfl | rfl | rfl <;> decide) rfl rfl
  | dropSame _ _ | dropApart _ _ => exact queueMove_of_not_ok (st := .full) (by decide) rfl rfl
  | pushSame hq hfree _ _ _ | pushApart hq hfree _ _ =>
    exact .appends rfl hq (by simp [hport _ _ rfl]) (stored_push h hfree :)
  | pop _ _ hne _ _ => exact .pops rfl (by simp [hport _ _ rfl]) (stored_take h hne :)
  | transmit _ hne _ _ => exact .transmits rfl rfl (stored_take h hne :)
  | rest _ => exact queueMove_of_core_port (.inl rfl) rfl
  | acq hp _ _ _ | rel hp _ _ _ | configFault hp _ _ | tcalc hp _ _ _ _ _ _ _ | tstart hp _ _ _ | rdreg hp
  | wrregDrctrl hp _ _ => exact queueMove_of_core_port hp rfl
  | @wrreg _ _ _ _ reg _ _ hp _ _ _ hne =>
    refine queueMove_of_core_port hp ?_
    cases reg with
    | drctrl => exact absurd rfl hne
    | _ => rfl
  | reset => exact .resets rfl
  | txblIgnored | disarm _ _ _ _ => exact queueMove_of_event (fun _ => rfl) rfl
  | _ => exact queueMove_of_event (fun he => Event.noConfusion he) rfl

theorem queueMove_of_deliver {x : Input} {s t : State} (h : deliver x s = .next t) (hs : RingInv s) :
    QueueMove x s t := by
  obtain ⟨u, hu, rfl⟩ := deliver_effect h
  have hport : ∀ p q, x = .command p q → (begun x s).port = p := by
    rintro p q rfl
    rfl
  obtain ⟨port, restCur, -, hbegun⟩ := begun_eq x s
  rw [hbegun] at hu hport
  cases queueMove_of_effect hu hport hs with
  | appends hx hq hok h => exact .appends hx hq hok h
  | pops hx hok h => exact .pops hx hok h
  | transmits hx hout h => exact .transmits hx hout h
  | resets hx => exact .resets hx
  | keeps hresp hout h => exact .keeps hresp hout h

/-- A list is not itself with one element more. -/
theorem ne_append_singleton {α : Type} (l : List α) (a : α) : l ≠ l ++ [a] := by simp

/-- Settles O25: each clause names the one move of the queue that the response, or the record of the transmission, allows. -/
theorem ringBufferIsAQueue : Obligations.RingBufferIsAQueue := by
  intro x s t hinv hdeliver
  obtain ⟨-, -, -, hring, -⟩ := hinv
  have hmove := queueMove_of_deliver hdeliver hring
  refine ⟨fun q w hx hq hok => ?_, fun q v hx hok => ?_, fun v hx hout => ?_, fun hx hpush hpop htx => ?_⟩
  · cases hmove with
    | appends hx' hq' _ h =>
      cases hx.symm.trans hx'
      cases hq.symm.trans hq'
      exact h
    | keeps hresp _ _ => exact absurd hok (hresp _ _ _ hx (.inl rfl))
    | pops hx' _ _ | transmits hx' _ _ | resets hx' => cases hx.symm.trans hx'
  · cases hmove with
    | pops _ hok' h =>
      cases hok.symm.trans hok'
      exact h
    | keeps hresp _ _ => exact absurd hok (hresp _ _ _ hx (.inr rfl))
    | appends hx' _ _ _ | transmits hx' _ _ | resets hx' => cases hx.symm.trans hx'
  · cases hmove with
    | transmits _ hout' h =>
      cases List.append_cancel_left (hout.symm.trans hout')
      exact h
    | keeps _ hkept _ => exact absurd ((hkept hx).symm.trans hout) (ne_append_singleton _ _)
    | appends hx' _ _ _ | pops hx' _ _ | resets hx' => cases hx.symm.trans hx'
  · cases hmove with
    | appends hx' _ hok _ => exact absurd hok (hpush _ hx')
    | pops hx' hok _ => exact absurd hok (hpop _ _ hx')
    | transmits hx' hout _ => exact absurd hout (htx _ hx')
    | resets hx' => exact absurd hx' hx
    | keeps _ _ h => exact h

end Sys2Proof.Proofs.RingUnit
end

section
/-!
PROOFS for the register space: the numbers of the registers (`spec/10_state.md` rules R40, R72), what `RDREG` answers and what
`WRREG` writes or refuses (`spec/44_registers.md` rules R200 to R203).
-/
namespace Sys2Proof.Proofs.Registers

open Sys2Proof.Machine Sys2Proof.Proofs.Effects

/-! ## Register numbers -/

/-- A number that names a register is that register's number (rules R40, R72). -/
theorem eq_regNumber_of_regOf {ndepth : Nat} {n : Byte} {r : Reg} (h : regOf ndepth n = some r) :
    n = regNumber r ∧ ∀ d, r = .arbCnt d → d < ndepth := by
  unfold regOf at h
  split at h
  case h_31 =>
    split_ifs at h with hcnt
    cases h
    refine ⟨BitVec.eq_of_toNat_eq ?_, fun d hd => ?_⟩
    · rw [regNumber, BitVec.toNat_ofNat]
      omega
    · cases hd
      omega
  all_goals
    cases h
    exact ⟨BitVec.eq_of_toNat_eq ‹_›, fun d hd => Reg.noConfusion hd⟩

/-- The number of a hold counter that there is (rule R44). -/
theorem regOf_arbCnt {ndepth d : Nat} (hd : d < ndepth) (hd16 : d < 16) :
    regOf ndepth (BitVec.ofNat 8 (16 + d)) = some (.arbCnt d) := by
  interval_cases d <;>
  · simp only [regOf, BitVec.toNat_ofNat, Nat.reduceAdd, Nat.reducePow, Nat.reduceMod, Nat.reduceSub, ite_eq_left_iff]
    omega

/-- The number of a single register names it in every core (rule R40). -/
theorem regOf_regNumber_of_single {ndepth : Nat} {r : Reg} (h : ∀ d, r ≠ .arbCnt d) :
    regOf ndepth (regNumber r) = some r := by
  cases r with
  | arbCnt d => exact absurd rfl (h d)
  | _ => rfl

/-- The number of a register that there is names it (rules R40, R44). -/
theorem regOf_regNumber {ndepth : Nat} {r : Reg} (hdepth : ndepth ≤ 16) (h : ∀ d, r = .arbCnt d → d < ndepth) :
    regOf ndepth (regNumber r) = some r := by
  cases r with
  | arbCnt d => exact regOf_arbCnt (h d rfl) (Nat.lt_of_lt_of_le (h d rfl) hdepth)
  | _ => exact regOf_regNumber_of_single fun d hd => Reg.noConfusion hd

/-- Settles O4: the two directions are the two lemmas above. -/
theorem registerNumbersAgree : Obligations.RegisterNumbersAgree := by
  intro ndepth n r hdepth
  refine ⟨eq_regNumber_of_regOf, ?_⟩
  rintro ⟨rfl, hcnt⟩
  exact regOf_regNumber hdepth hcnt

/-! ## How a register command ends -/

/-- The end of a command whose rule has written `t` and nothing else but the wake. -/
theorem settle_respond {s t : State} (st : Status) (data : Word) (hport : t.port = s.port)
    (hrest : t.restCur = s.restCur) :
    settle (respond st data { t with restCur := (wakeAtIsr s).restCur }) = answered s t st data := by
  have hwake : (if t.irq || t.halted then 0 else if s.port = .isr then 0 else s.restCur) =
      if s.port = .isr ∨ t.irq = true ∨ t.halted = true then 0 else t.restCur := by
    rw [hrest]
    by_cases hisr : s.port = .isr <;> simp [hisr]
  show { t with
      restCur := if t.irq || t.halted then 0 else if s.port = .isr then 0 else s.restCur
      resp := some ⟨t.port, st, data⟩ } = answered s t st data
  rw [hwake, answered, hport]

theorem settle_respond_self (s : State) (st : Status) (data : Word) :
    settle (respond st data (wakeAtIsr s)) = answered s s st data := settle_respond st data rfl rfl

theorem staticLegal_rdreg {s : State} {r : Byte} {reg : Reg} (hport : s.port = .bg ∨ s.port = .isr)
    (hreg : regOf s.cfg.ndepth r = some reg) : staticLegal s.cfg s.port (.rdreg r) = true := by
  rcases hport with h | h <;> simp [staticLegal, Instr.wellFormed, portAllows, hreg, h]

theorem staticLegal_wrreg {s : State} {r : Byte} {w : Word} {reg : Reg} (hport : s.port = .bg ∨ s.port = .isr)
    (hreg : regOf s.cfg.ndepth r = some reg) : staticLegal s.cfg s.port (.wrreg r w) = true := by
  rcases hport with h | h <;> simp [staticLegal, Instr.wellFormed, portAllows, hreg, h]

/-! ## RDREG -/

section Rdreg

variable {s : State} {r : Byte} {reg : Reg}

/-- `RDREG` of a register that can be read answers its value after the wake (rule R200). -/
theorem exec_rdreg (hport : s.port = .bg ∨ s.port = .isr) (hreg : regOf s.cfg.ndepth r = some reg)
    (hread : accessOf reg ≠ .wo) :
    exec (.rdreg r) s = .next (answered s s .ok (regValue reg (wakeAtIsr s))) := by
  show execRdreg r s = _
  rw [execRdreg, command_of_legal (staticLegal_rdreg hport hreg) (.inr rfl)]
  simp only [wakeAtIsr_cfg, hreg, if_neg hread, onNext_next, settle_respond_self]

/-- `RDREG` of the write-only register is refused (rule R200). -/
theorem exec_rdreg_of_wo (hport : s.port = .bg ∨ s.port = .isr) (hreg : regOf s.cfg.ndepth r = some reg)
    (hwo : accessOf reg = .wo) : exec (.rdreg r) s = .next (answered s s .illegal 0) := by
  show execRdreg r s = _
  rw [execRdreg, command_of_legal (staticLegal_rdreg hport hreg) (.inr rfl)]
  simp only [wakeAtIsr_cfg, hreg, if_pos hwo, onNext_next, settle_respond_self]

end Rdreg

/-- The fields of `TCTRL` at their bits (rule R49). -/
theorem regValue_tctrl (s : State) :
    regValue .tctrl s = BitVec.ofNat 32
      (s.run.toNat + 2 * (if s.tstate = .exciting then 1 else 0) + 4 * s.pol.toNat + 8 * s.polen.toNat) := by
  show bitField 0 s.run ||| bitField 1 (timerStateBit s.tstate) ||| bitField 2 s.pol ||| bitField 3 s.polen = _
  cases s.run <;> cases s.tstate <;> cases s.pol <;> cases s.polen <;> decide

/-- The fields of `DRCTRL` at their bits (rule R64). -/
theorem regValue_drctrl (s : State) :
    regValue .drctrl s = BitVec.ofNat 32 (s.drEn.toNat + 2 * s.drActive.toNat + 4 * s.drWait.toNat) := by
  show bitField 0 s.drEn ||| bitField 1 s.drActive ||| bitField 2 s.drWait = _
  cases s.drEn <;> cases s.drActive <;> cases s.drWait <;> decide

/-- `ARB_CUR` reads the rest state after the wake (rules R41, R109 (1)). -/
theorem regValue_arbCur_wakeAtIsr (s : State) :
    regValue .arbCur (wakeAtIsr s) = if s.port = .isr then 0 else BitVec.ofNat 32 s.restCur.toNat := by
  show BitVec.setWidth 32 (if s.port = .isr then 0 else s.restCur) = _
  split
  · rfl
  · rw [BitVec.ofNat_toNat]

/-- The single registers that can be read, in the order of their numbers (rule R40). -/
def readableRegs : List Reg :=
  [.arbNext, .arbCur, .arbDblrel, .rbRd, .rbWrs, .rbDrop, .rbSize, .tctrl, .tfreq, .tratio, .tdur, .tfloor, .tcomp0,
    .tcomp1, .tpresc, .tcnt, .tpidxA, .tpidxB, .tmodn, .trelmask, .thdepth, .tslot, .drctrl, .drdepth, .drtxd, .intFlag,
    .intEnable, .fault, .faultInfo]

theorem accessOf_of_readable {reg : Reg} (h : reg ∈ readableRegs) : accessOf reg ≠ .wo := by
  revert reg
  decide

theorem exec_rdreg_of_readable {s : State} (hport : s.port = .bg ∨ s.port = .isr) {reg : Reg}
    (h : reg ∈ readableRegs) :
    exec (.rdreg (regNumber reg)) s = .next (answered s s .ok (regValue reg (wakeAtIsr s))) := by
  refine exec_rdreg hport (regOf_regNumber_of_single ?_) (accessOf_of_readable h)
  rintro d rfl
  simp [readableRegs] at h

/-- Settles O44: each value of the list is `RegValue` of the register with that number, after the wake. -/
theorem rdregAnswersEveryRegister : Obligations.RdregAnswersEveryRegister := by
  intro s hport
  refine ⟨fun rv hrv => ?_, fun d hd hd16 => ?_, exec_rdreg_of_wo hport (reg := .intFlagClear) rfl rfl⟩
  · have hmem : rv ∈ readableRegs.map (fun reg => (regNumber reg, regValue reg (wakeAtIsr s))) := by
      rw [readableRegs]
      simp only [List.map_cons, List.map_nil, regNumber, regValue_tctrl, regValue_drctrl, regValue_arbCur_wakeAtIsr]
      simp only [BitVec.ofNat_toNat] at hrv ⊢
      exact hrv
    obtain ⟨reg, hreg, rfl⟩ := List.mem_map.mp hmem
    exact exec_rdreg_of_readable hport hreg
  · exact exec_rdreg (reg := .arbCnt d) hport (regOf_arbCnt hd hd16) (by simp [accessOf])

/-! ## WRREG -/

/-- The four conditions of a legal write (rule R202). -/
theorem writeLegal_iff {reg : Reg} {w : Word} {s : State} :
    writeLegal reg w s = true ↔ accessOf reg ≠ .ro ∧ w &&& ~~~(wmaskOf s.cfg reg) = 0 ∧
      rangeLegal s.cfg reg w = true ∧ lockOpen (lockOf reg) s = true := by
  simp [writeLegal, and_assoc]

/-- A legal write of a register locked by `RUN` finds the timer stopped (rule R202 (d)). -/
theorem stopped_of_writeLegal {reg : Reg} {w : Word} {s : State} (h : writeLegal reg w s = true)
    (hlock : lockOf reg = .run) : s.run = false := by
  obtain ⟨-, -, -, hopen⟩ := writeLegal_iff.mp h
  simpa [hlock, lockOpen] using hopen

/-- A legal write of a register locked by `DR_ACTIVE` finds the drain unit disarmed (rule R202 (d)). -/
theorem disarmed_of_writeLegal {reg : Reg} {w : Word} {s : State} (h : writeLegal reg w s = true)
    (hlock : lockOf reg = .act) : s.drActive = false := by
  obtain ⟨-, -, -, hopen⟩ := writeLegal_iff.mp h
  simpa [hlock, lockOpen] using hopen

theorem rangeLegal_of_writeLegal {reg : Reg} {w : Word} {s : State} (h : writeLegal reg w s = true) :
    rangeLegal s.cfg reg w = true := (writeLegal_iff.mp h).2.2.1

theorem acquire_restCur_comm (d : Nat) (s : State) (restCur : BitVec 4) :
    acquire d { s with restCur := restCur } = { acquire d s with restCur := restCur } := by
  unfold acquire
  by_cases hmax : s.holds d = s.cfg.hcMax
  · rw [if_pos hmax]
    exact if_pos hmax
  · rw [if_neg hmax]
    exact if_neg hmax

theorem drainArm_restCur_comm (s : State) (restCur : BitVec 4) :
    drainArm { s with restCur := restCur } = { drainArm s with restCur := restCur } := by
  by_cases hready : ReadyToArm s
  · have hleft : drainArm { s with restCur := restCur } =
        { acquire s.drDepth.toNat { s with restCur := restCur } with drActive := true } := if_pos hready
    have hright : drainArm s = { acquire s.drDepth.toNat s with drActive := true } := if_pos hready
    rw [hleft, hright, acquire_restCur_comm]
  · have hright : drainArm s = s := if_neg hready
    rw [hright]
    exact if_neg hready

/-- A write does not see the rest state. -/
theorem writeReg_restCur_comm (reg : Reg) (w : Word) (s : State) (restCur : BitVec 4) :
    writeReg reg w { s with restCur := restCur } = { writeReg reg w s with restCur := restCur } := by
  cases reg with
  | drctrl => exact drainArm_restCur_comm { s with drEn := w.getLsbD 0 } restCur
  | _ => rfl

@[simp] theorem writeReg_restCur (reg : Reg) (w : Word) (s : State) : (writeReg reg w s).restCur = s.restCur := by
  cases reg with
  | drctrl =>
    obtain ⟨hc, fault, info, active, -, heq⟩ := drainArm_arms { s with drEn := w.getLsbD 0 }
    rw [writeReg, heq]
  | _ => rfl

section Wrreg

variable {s t : State} {r : Byte} {w : Word} {reg : Reg}

/-- A legal `WRREG` that raises no fault writes its register and answers `OK` (rule R201). -/
theorem exec_wrreg (hport : s.port = .bg ∨ s.port = .isr) (hrunning : s.halted = false)
    (hreg : regOf s.cfg.ndepth r = some reg) (hlegal : writeLegal reg w s = true) (hwrite : writeReg reg w s = t)
    (hok : t.halted = false) : exec (.wrreg r w) s = .next (answered s t .ok 0) := by
  subst hwrite
  show execWrreg r w s = _
  rw [execWrreg, command_of_legal (staticLegal_wrreg hport hreg) (.inl hrunning)]
  have hlegal' : writeLegal reg w (wakeAtIsr s) = true := hlegal
  have hwake : writeReg reg w (wakeAtIsr s) = { writeReg reg w s with restCur := (wakeAtIsr s).restCur } :=
    writeReg_restCur_comm reg w s _
  have hanswer : respondOkOrFaulted { writeReg reg w s with restCur := (wakeAtIsr s).restCur } =
      respond .ok 0 { writeReg reg w s with restCur := (wakeAtIsr s).restCur } := 
    if_neg fun hhalted => Bool.noConfusion (hhalted.symm.trans hok)
  simp only [wakeAtIsr_cfg, hreg, hlegal', Bool.true_eq_false, if_false, hwake, hanswer, onNext_next]
  rw [settle_respond .ok 0 (writeReg_port reg w s) (writeReg_restCur reg w s)]

/-- A `WRREG` that is not legal for the register it names is refused (rules R108, R201). -/
theorem exec_wrreg_of_illegal (hport : s.port = .bg ∨ s.port = .isr) (hrunning : s.halted = false)
    (hillegal : ∀ reg, regOf s.cfg.ndepth r = some reg → writeLegal reg w s = false) :
    exec (.wrreg r w) s = .next (answered s s .illegal 0) := by
  show execWrreg r w s = _
  cases hreg : regOf s.cfg.ndepth r with
  | none =>
    have hl : staticLegal s.cfg s.port (.wrreg r w) = false := by simp [staticLegal, Instr.wellFormed, hreg]
    rw [execWrreg, command, if_pos hl, settle_respond_self]
  | some reg =>
    have hillegal' : writeLegal reg w (wakeAtIsr s) = false := hillegal reg hreg
    rw [execWrreg, command_of_legal (staticLegal_wrreg hport hreg) (.inl hrunning)]
    simp only [wakeAtIsr_cfg, hreg, hillegal', if_true, onNext_next, settle_respond_self]

end Wrreg

/-- A number of `k` bits has no 1 outside the mask of `k` bits. -/
theorem and_not_mask {w : Word} {k : Nat} (h : w.toNat < 2 ^ k) : w &&& ~~~(BitVec.ofNat 32 (2 ^ k - 1)) = 0 := by
  apply BitVec.eq_of_getLsbD_eq
  intro i hi
  rw [BitVec.getLsbD_and, BitVec.getLsbD_not, BitVec.getLsbD_ofNat, Nat.testBit_two_pow_sub_one]
  by_cases hik : i < k
  · simp [hi, hik]
  · have hbit : w.getLsbD i = false :=
      Nat.testBit_lt_two_pow (Nat.lt_of_lt_of_le h (Nat.pow_le_pow_right (by omega) (by omega)))
    simp [hbit]

/-- Settles O45: each write is legal by its mask, its range and its lock, and writes its register. -/
theorem wrregWritesEveryRegister : Obligations.WrregWritesEveryRegister := by
  intro s w hport hrunning _
  have hmask1 (h : w.toNat ≤ 1) : w &&& ~~~(0x1 : Word) = 0 := and_not_mask (k := 1) (by omega)
  have hmask4 (h : w.toNat ≤ 15) : w &&& ~~~(0xF : Word) = 0 := and_not_mask (k := 4) (by omega)
  have hmask6 (h : w.toNat ≤ 32) : w &&& ~~~(0x3F : Word) = 0 := and_not_mask (k := 6) (by omega)
  have hmask32 : w &&& ~~~(0xFFFFFFFF : Word) = 0 := and_not_mask (k := 32) w.isLt
  have hmaskT (h : w.toNat < 2 ^ s.cfg.timerW) : w &&& ~~~(wordOfNat s.cfg.tMax) = 0 := and_not_mask h
  have hwrite {r : Byte} {reg : Reg} {t : State} (hreg : regOf s.cfg.ndepth r = some reg)
      (hlegal : accessOf reg ≠ .ro ∧ w &&& ~~~(wmaskOf s.cfg reg) = 0 ∧ rangeLegal s.cfg reg w = true ∧
        lockOpen (lockOf reg) s = true) (hval : writeReg reg w s = t) (hok : t.halted = s.halted) :
      exec (.wrreg r w) s = .next (answered s t .ok 0) :=
    exec_wrreg hport hrunning hreg (writeLegal_iff.mpr hlegal) hval (hok.trans hrunning)
  refine ⟨fun hrun => ?_, fun hact => ?_, fun h4 => ?_⟩
  · have hopen : lockOpen .run s = true := by simp [lockOpen, hrun]
    refine ⟨fun hw => ?_, ?_, ?_, ?_, ?_, fun hw => ⟨?_, ?_⟩, fun hmax h4 => ?_, fun h1 h32 => ?_, ?_,
      fun hdepth h4 => ?_⟩
    · have hw' : w = 0 ∨ w = 8 := hw.imp BitVec.eq_of_toNat_eq BitVec.eq_of_toNat_eq
      have hmask : w &&& ~~~(0x8 : Word) = 0 := by rcases hw' with rfl | rfl <;> decide
      have hbit : w.getLsbD 3 = decide (w.toNat = 8) := by rcases hw' with rfl | rfl <;> decide
      exact hwrite (reg := .tctrl) rfl ⟨by decide, hmask, rfl, hopen⟩ (by rw [writeReg, hbit]) rfl
    · exact hwrite (reg := .tfreq) rfl ⟨by decide, hmask32, rfl, hopen⟩ rfl rfl
    · exact hwrite (reg := .tratio) rfl ⟨by decide, hmask32, rfl, hopen⟩ rfl rfl
    · exact hwrite (reg := .tdur) rfl ⟨by decide, hmask32, rfl, hopen⟩ rfl rfl
    · exact hwrite (reg := .tfloor) rfl ⟨by decide, hmask32, rfl, hopen⟩ rfl rfl
    · exact hwrite (reg := .tcomp0) rfl ⟨by decide, hmaskT hw, rfl, hopen⟩
        (by rw [writeReg, Nat.mod_eq_of_lt hw]) rfl
    · exact hwrite (reg := .tcomp1) rfl ⟨by decide, hmaskT hw, rfl, hopen⟩
        (by rw [writeReg, Nat.mod_eq_of_lt hw]) rfl
    · exact hwrite (reg := .tpresc) rfl ⟨by decide, hmask4 h4, decide_eq_true hmax, hopen⟩ rfl rfl
    · exact hwrite (reg := .tmodn) rfl ⟨by decide, hmask6 h32, decide_eq_true ⟨h1, h32⟩, hopen⟩ rfl rfl
    · exact hwrite (reg := .trelmask) rfl ⟨by decide, hmask32, rfl, hopen⟩ rfl rfl
    · exact hwrite (reg := .thdepth) rfl ⟨by decide, hmask4 h4, decide_eq_true hdepth, hopen⟩ rfl rfl
  · have hopen : lockOpen .act s = true := by simp [lockOpen, hact]
    refine ⟨fun hw => ?_, fun hw hview => ?_, fun hdepth h4 => ?_⟩
    · have hbit : w.getLsbD 0 = false := by rw [BitVec.eq_of_toNat_eq (x := w) (y := 0) hw]; rfl
      refine hwrite (reg := .drctrl) rfl ⟨by decide, hmask1 (by omega), rfl, hopen⟩ ?_ rfl
      rw [writeReg, hbit]
      exact if_neg fun hready => Bool.noConfusion hready.2.1
    · have hbit : w.getLsbD 0 = true := by rw [BitVec.eq_of_toNat_eq (x := w) (y := 1) hw]; rfl
      refine hwrite (reg := .drctrl) rfl ⟨by decide, hmask1 (by omega), rfl, hopen⟩ ?_ rfl
      rw [writeReg, hbit]
      exact if_neg fun hready => hready.2.2.2 hview
    · exact hwrite (reg := .drdepth) rfl ⟨by decide, hmask4 h4, decide_eq_true hdepth, hopen⟩ rfl rfl
  · exact ⟨hwrite (reg := .intFlagClear) rfl ⟨by decide, hmask4 h4, rfl, rfl⟩ rfl rfl,
      hwrite (reg := .intEnable) rfl ⟨by decide, hmask4 h4, rfl, rfl⟩ rfl rfl⟩

/-! ## Illegal writes, by the condition of rule R202 that fails -/

section Illegal

variable {s : State} {r : Byte} {reg : Reg} {w : Word}

theorem writeLegal_of_ro (h : accessOf reg = .ro) : writeLegal reg w s = false := by simp [writeLegal, h]

theorem writeLegal_of_mask (h : w &&& ~~~(wmaskOf s.cfg reg) ≠ 0) : writeLegal reg w s = false := by
  rw [writeLegal, beq_eq_false_iff_ne.mpr h, Bool.and_false, Bool.false_and, Bool.false_and]

theorem writeLegal_of_range (h : rangeLegal s.cfg reg w = false) : writeLegal reg w s = false := by
  simp [writeLegal, h]

theorem writeLegal_of_locked (h : lockOpen (lockOf reg) s = false) : writeLegal reg w s = false := by
  simp [writeLegal, h]

end Illegal

/-- The single registers that are read-only (rule R40). -/
def readOnlyRegs : List Reg :=
  [.arbNext, .arbCur, .arbDblrel, .rbRd, .rbWrs, .rbDrop, .rbSize, .tcnt, .tpidxA, .tpidxB, .tslot, .drtxd, .intFlag,
    .fault, .faultInfo]

/-- The registers with a mask that is not the whole word (rule R40). -/
def maskedRegs : List Reg :=
  [.tctrl, .tcomp0, .tcomp1, .tpresc, .tmodn, .thdepth, .drctrl, .drdepth, .intFlagClear, .intEnable]

/-- The registers locked by `RUN` (rule R40). -/
def runLockedRegs : List Reg :=
  [.tctrl, .tfreq, .tratio, .tdur, .tfloor, .tcomp0, .tcomp1, .tpresc, .tmodn, .trelmask, .thdepth]

theorem accessOf_of_readOnly {reg : Reg} (h : reg ∈ readOnlyRegs) : accessOf reg = .ro := by
  revert reg
  decide

theorem lockOf_of_runLocked {reg : Reg} (h : reg ∈ runLockedRegs) : lockOf reg = .run := by
  revert reg
  decide

/-- A number from 16 to 31 names a hold counter or nothing (rule R44). -/
theorem accessOf_of_regOf_counter {ndepth : Nat} {r : Byte} {reg : Reg} (hlow : 16 ≤ r.toNat) (hhigh : r.toNat < 32)
    (h : regOf ndepth r = some reg) : accessOf reg = .ro := by
  obtain ⟨rfl, -⟩ := eq_regNumber_of_regOf h
  cases reg with
  | arbCnt d => rfl
  | _ => simp [regNumber] at hlow hhigh

/-- No single register has the number of another. -/
theorem eq_of_regOf_regNumber {ndepth : Nat} {reg reg' : Reg} (hsingle : ∀ d, reg ≠ .arbCnt d)
    (h : regOf ndepth (regNumber reg) = some reg') : reg' = reg :=
  Option.some.inj (h.symm.trans (regOf_regNumber_of_single hsingle))

/-- Settles O47: each case of the statement fails a condition of `WriteLegal`, for whatever register the number names. -/
theorem wrregRefusesIllegalWrites : Obligations.WrregRefusesIllegalWrites := by
  intro s r w hport hrunning hdepth hcase
  refine exec_wrreg_of_illegal hport hrunning fun reg hreg => ?_
  have hname {reg' : Reg} (hsingle : ∀ d, reg' ≠ .arbCnt d) (hr : r = regNumber reg') : reg = reg' :=
    eq_of_regOf_regNumber hsingle (hr ▸ hreg)
  rcases hcase with hro | ⟨hlow, hhigh⟩ | ⟨m, hmem, hmask⟩ | ⟨hr, hrange⟩ | ⟨hr, hrange⟩ | ⟨hr, hrange⟩ |
    ⟨hrun, hr⟩ | ⟨hact, hr⟩
  · obtain ⟨reg', hreg', rfl⟩ := List.mem_map.mp (show r ∈ readOnlyRegs.map regNumber from hro)
    rw [hname (by rintro d rfl; simp [readOnlyRegs] at hreg') rfl]
    exact writeLegal_of_ro (accessOf_of_readOnly hreg')
  · exact writeLegal_of_ro (accessOf_of_regOf_counter hlow (by omega) hreg)
  · obtain ⟨reg', hreg', heq⟩ :=
      List.mem_map.mp (show (r, m) ∈ maskedRegs.map (fun reg => (regNumber reg, wmaskOf s.cfg reg)) from hmem)
    obtain ⟨rfl, rfl⟩ := Prod.mk.inj heq
    rw [hname (by rintro d rfl; simp [maskedRegs] at hreg') rfl]
    exact writeLegal_of_mask hmask
  · rw [hname (reg' := .tpresc) (by simp) hr]
    exact writeLegal_of_range (decide_eq_false (by omega))
  · rw [hname (reg' := .tmodn) (by simp) hr]
    exact writeLegal_of_range (decide_eq_false (by omega))
  · rcases hr with hr | hr
    · rw [hname (reg' := .thdepth) (by simp) hr]
      exact writeLegal_of_range (decide_eq_false (by omega))
    · rw [hname (reg' := .drdepth) (by simp) hr]
      exact writeLegal_of_range (decide_eq_false (by omega))
  · obtain ⟨reg', hreg', rfl⟩ := List.mem_map.mp (show r ∈ runLockedRegs.map regNumber from hr)
    rw [hname (by rintro d rfl; simp [runLockedRegs] at hreg') rfl]
    refine writeLegal_of_locked ?_
    rw [lockOf_of_runLocked hreg', lockOpen, hrun]
    rfl
  · rcases hr with hr | hr
    · rw [hname (reg' := .drctrl) (by simp) hr]
      exact writeLegal_of_locked (by simp [lockOf, lockOpen, hact])
    · rw [hname (reg' := .drdepth) (by simp) hr]
      exact writeLegal_of_locked (by simp [lockOf, lockOpen, hact])

end Sys2Proof.Proofs.Registers
end

section
/-!
PROOFS for the timer's part of the state (`spec/10_state.md` rules R29 to R32): the invariant that every step keeps (properties
Q4 and Q5, rule R169) and the configuration that a running timer keeps (rules R202 (d), R266).
-/
namespace Sys2Proof.Proofs.TimerUnit

open Sys2Proof.Machine Sys2Proof.Proofs.Effects Sys2Proof.Proofs.Registers

/-! ## The prescale search ends at a shift under which the period fits -/

theorem prescaleLoop_fits {tmax period fuel k : Nat} (h : prescaleLoop tmax period fuel k < k + fuel) :
    period / 2 ^ prescaleLoop tmax period fuel k ≤ tmax := by
  induction fuel generalizing k with
  | zero => simp [prescaleLoop] at h
  | succ fuel ih =>
    rw [prescaleLoop] at h ⊢
    split_ifs at h ⊢ with hlarge
    · exact ih (by omega)
    · omega

theorem prescaleSearch_fits {p : Params} {period : Nat} (h : prescaleSearch p period ≤ p.prescMax)
    (hlegal : p.Legal) : period / 2 ^ prescaleSearch p period ≤ p.tMax := by
  obtain ⟨-, -, -, -, -, hmax⟩ := hlegal
  exact prescaleLoop_fits (show prescaleSearch p period < 0 + 96 by omega)

/-! ## The invariant -/

/-- A timer that nothing has happened to since reset (rules R30 to R32). -/
abbrev Quiet (s : State) : Prop :=
  s.tstate = .idle ∧ s.tcnt = 0 ∧ s.pdiv = 0 ∧ s.pidxA = 0 ∧ s.pidxB = 0 ∧ s.pol = false ∧ s.tslot = 0

/-- The invariant of a stopped timer asks for the ranges of its configuration alone. -/
theorem timerInv_of_stopped {t : State} (hrun : t.run = false) (hquiet : Quiet t)
    (hcomp0 : t.tcomp0 ≤ t.cfg.tMax) (hcomp1 : t.tcomp1 ≤ t.cfg.tMax) (hpresc : t.tpresc.toNat ≤ t.cfg.prescMax)
    (hmodn : 1 ≤ t.tmodn.toNat ∧ t.tmodn.toNat ≤ 32) (hdepth : t.thdepth.toNat < t.cfg.ndepth) : TimerInv t := by
  obtain ⟨hidle, -, -, hA, hB, -, hslot⟩ := id hquiet
  refine ⟨⟨hcomp0, hcomp1, hpresc⟩, ⟨hmodn.1, hmodn.2, ?_⟩, hdepth, fun _ => hquiet, fun hrun' => ?_, fun hexc => ?_,
    fun _ => hA.trans hB.symm⟩
  · rw [hslot]
    exact hmodn.1
  · exact absurd (hrun.symm.trans hrun') (by decide)
  · exact absurd (hidle.symm.trans hexc) (by decide)

/-- The low bits of a word that fits them are the word. -/
theorem toNat_extract_of_lt {w : Word} {k : Nat} (h : w.toNat < 2 ^ k) : (w.extractLsb' 0 k).toNat = w.toNat := by
  rw [BitVec.extractLsb'_toNat, Nat.shiftRight_zero, Nat.mod_eq_of_lt h]

theorem toNat_extract_le (w : Word) (k : Nat) : (w.extractLsb' 0 k).toNat ≤ w.toNat := by
  rw [BitVec.extractLsb'_toNat, Nat.shiftRight_zero]
  exact Nat.mod_le _ _

/-- A number of `TIMER_W` bits is at most `TMAX` (rule R8). -/
theorem mod_le_tMax (p : Params) (n : Nat) : n % 2 ^ p.timerW ≤ p.tMax :=
  Nat.le_sub_one_of_lt (Nat.mod_lt _ (Nat.two_pow_pos _))

/-- A legal write keeps the invariant: the timer's configuration is written only while it is stopped, and in range (rule
R202). -/
theorem timerInv_writeReg {reg : Reg} {w : Word} {b : State} (hlegal : writeLegal reg w b = true)
    (hne : reg ≠ .drctrl) (h : TimerInv b) : TimerInv (writeReg reg w b) := by
  obtain ⟨⟨hcomp0, hcomp1, hpresc⟩, ⟨hmodn1, hmodn32, -⟩, hdepth, hquiet, -⟩ := id h
  have hrange := rangeLegal_of_writeLegal hlegal
  cases reg with
  | drctrl => exact absurd rfl hne
  | tcomp0 =>
    have hrun := stopped_of_writeLegal hlegal rfl
    exact timerInv_of_stopped hrun (hquiet hrun) (mod_le_tMax _ _) hcomp1 hpresc ⟨hmodn1, hmodn32⟩ hdepth
  | tcomp1 =>
    have hrun := stopped_of_writeLegal hlegal rfl
    exact timerInv_of_stopped hrun (hquiet hrun) hcomp0 (mod_le_tMax _ _) hpresc ⟨hmodn1, hmodn32⟩ hdepth
  | tpresc =>
    have hrun := stopped_of_writeLegal hlegal rfl
    exact timerInv_of_stopped hrun (hquiet hrun) hcomp0 hcomp1
      (Nat.le_trans (toNat_extract_le w 4) (of_decide_eq_true hrange)) ⟨hmodn1, hmodn32⟩ hdepth
  | tmodn =>
    have hrun := stopped_of_writeLegal hlegal rfl
    obtain ⟨hmin, hmax⟩ : 1 ≤ w.toNat ∧ w.toNat ≤ 32 := of_decide_eq_true hrange
    have hval : (w.extractLsb' 0 6).toNat = w.toNat := toNat_extract_of_lt (by omega)
    exact timerInv_of_stopped hrun (hquiet hrun) hcomp0 hcomp1 hpresc
      ⟨hmin.trans_eq hval.symm, hval.trans_le hmax⟩ hdepth
  | thdepth =>
    have hrun := stopped_of_writeLegal hlegal rfl
    exact timerInv_of_stopped hrun (hquiet hrun) hcomp0 hcomp1 hpresc ⟨hmodn1, hmodn32⟩
      (Nat.lt_of_le_of_lt (toNat_extract_le w 4) (of_decide_eq_true hrange))
  | _ => exact h

/-- The behaviour slot is below `TMODN` and fits its five bits (rules R32, R167). -/
theorem toNat_behaviourSlot_lt {s : State} (hmin : 1 ≤ s.tmodn.toNat) :
    (BitVec.ofNat 5 (behaviourSlot s)).toNat < s.tmodn.toNat := by
  rw [BitVec.toNat_ofNat]
  exact Nat.lt_of_le_of_lt (Nat.mod_le _ _) (Nat.mod_lt _ hmin)

/-- The invariant of a timer that runs (property Q5, rule R169). -/
theorem timerInv_of_running {t : State} (hrun : t.run = true)
    (hranges : t.tcomp0 ≤ t.cfg.tMax ∧ t.tcomp1 ≤ t.cfg.tMax ∧ t.tpresc.toNat ≤ t.cfg.prescMax)
    (hslots : 1 ≤ t.tmodn.toNat ∧ t.tmodn.toNat ≤ 32 ∧ t.tslot.toNat < t.tmodn.toNat)
    (hdepth : t.thdepth.toNat < t.cfg.ndepth) (hcomp : 1 ≤ t.tcomp1 ∧ t.tcomp1 < t.tcomp0)
    (hcnt : 1 ≤ t.tcnt ∧ t.tcnt ≤ t.tcomp0) (hpdiv : t.pdiv < 2 ^ t.tpresc.toNat)
    (hexc : t.tstate = .exciting → t.tcomp1 < t.tcnt ∧ t.pidxA = t.pidxB + 1)
    (hidle : t.tstate = .idle → t.pidxA = t.pidxB) : TimerInv t :=
  ⟨hranges, hslots, hdepth, fun hstop => absurd (hrun.symm.trans hstop) (by decide),
    fun _ => ⟨hcomp.1, hcomp.2, hcnt.1, hcnt.2, hpdiv⟩, hexc, hidle⟩

theorem timerInv_of_effect {x : Input} {b u : State} (hu : Effect x b u) (hlegal : b.cfg.Legal) (h : TimerInv b) :
    TimerInv u := by
  obtain ⟨hranges, ⟨hmodn1, hmodn32, hslot⟩, hdepth, hquiet, hruns, hexc, hidle⟩ := id h
  cases hu with
  | tcalc _ hrun _ _ hk hmax _ hlt =>
    have hfits := prescaleSearch_fits (hk ▸ hmax) hlegal
    rw [← hk] at hfits
    refine timerInv_of_stopped hrun (hquiet hrun) hfits (Nat.le_trans (Nat.sub_le _ _) hfits) ?_ ⟨hmodn1, hmodn32⟩
      hdepth
    exact Nat.le_trans (Nat.le_of_eq (BitVec.toNat_ofNat _ _)) (Nat.le_trans (Nat.mod_le _ _) hmax)
  | tstart _ hrun hcomp1 hcomp =>
    obtain ⟨hstate, -⟩ := hquiet hrun
    exact timerInv_of_running rfl hranges ⟨hmodn1, hmodn32, hslot⟩ hdepth ⟨hcomp1, hcomp⟩
      ⟨show 1 ≤ b.tcomp0 by omega, Nat.le_refl _⟩ (Nat.two_pow_pos _)
      (fun hexc' => absurd (hstate.symm.trans hexc') (by decide)) hidle
  | wrreg _ _ _ hwrite hne => exact (timerInv_writeReg hwrite hne h :)
  | tickDivided _ hrun =>
    obtain ⟨hcomp1, hcomp, hcnt1, hcnt, -⟩ := hruns hrun
    exact timerInv_of_running hrun hranges ⟨hmodn1, hmodn32, hslot⟩ hdepth ⟨hcomp1, hcomp⟩ ⟨hcnt1, hcnt⟩
      (Nat.mod_lt _ (Nat.two_pow_pos _)) hexc hidle
  | tickCounted _ hrun hcnt2 hnomatch =>
    obtain ⟨hcomp1, hcomp, hcnt1, hcnt, -⟩ := hruns hrun
    refine timerInv_of_running hrun hranges ⟨hmodn1, hmodn32, hslot⟩ hdepth ⟨hcomp1, hcomp⟩
      ⟨show 1 ≤ b.tcnt - 1 by omega, show b.tcnt - 1 ≤ b.tcomp0 by omega⟩ (Nat.two_pow_pos _) (fun hexc' => ?_) hidle
    obtain ⟨habove, hindex⟩ := hexc hexc'
    have hne : b.tcnt - 1 ≠ b.tcomp1 := fun heq => hnomatch ⟨heq, hexc'⟩
    exact ⟨show b.tcomp1 < b.tcnt - 1 by omega, hindex⟩
  | phaseA _ hrun hreload _ =>
    obtain ⟨hcomp1, hcomp, -⟩ := hruns hrun
    have hstate : b.tstate = .idle := by
      cases hstate : b.tstate with
      | idle => rfl
      | exciting =>
        obtain ⟨habove, -⟩ := hexc hstate
        omega
    exact timerInv_of_running hrun hranges ⟨hmodn1, hmodn32, hslot⟩ hdepth ⟨hcomp1, hcomp⟩
      ⟨show 1 ≤ b.tcomp0 by omega, Nat.le_refl _⟩ (Nat.two_pow_pos _)
      (fun _ => ⟨hcomp, congrArg (· + 1) (hidle hstate)⟩) (fun hidle' => TimerState.noConfusion hidle')
  | phaseB _ hrun hcnt2 _ hstate _ =>
    obtain ⟨hcomp1, hcomp, hcnt1, hcnt, -⟩ := hruns hrun
    obtain ⟨-, hindex⟩ := hexc hstate
    exact timerInv_of_running hrun hranges ⟨hmodn1, hmodn32, toNat_behaviourSlot_lt hmodn1⟩ hdepth ⟨hcomp1, hcomp⟩
      ⟨show 1 ≤ b.tcnt - 1 by omega, show b.tcnt - 1 ≤ b.tcomp0 by omega⟩ (Nat.two_pow_pos _)
      (fun hexc' => TimerState.noConfusion hexc') (fun _ => hindex)
  | reset => exact Scope.timerInv_resetWith hlegal
  | _ => exact h

/-- Settles O56: every effect keeps the invariant of the timer. -/
theorem stepKeepsTimerInvariant : Obligations.StepKeepsTimerInvariant := by
  intro s t hlegal htimer hstep
  have hkept : t.cfg.Legal ∧ TimerInv t :=
    step_keeps (P := fun s => s.cfg.Legal ∧ TimerInv s) hstep ⟨hlegal, htimer⟩ (fun _ _ _ _ _ => Iff.rfl)
      (fun x b u hu hb => ⟨hu.cfg ▸ hb.1, timerInv_of_effect hu hb.1 hb.2⟩)
  exact hkept.2

/-! ## The configuration of a running timer -/

/-- `RUN` and the configuration elements of the timer that are locked by it (rules R29, R202 (d)). -/
def lockedConfig (s : State) :
    Bool × (Word × Word × Word × Word × Word) × (Nat × Nat) × (BitVec 4 × BitVec 6 × BitVec 4) × Bool :=
  (s.run, (s.tfreq, s.tratio, s.tdur, s.tfloor, s.trelmask), (s.tcomp0, s.tcomp1), (s.tpresc, s.tmodn, s.thdepth),
    s.polen)

/-- No effect but reset writes the locked configuration while the timer runs (rule R266). -/
theorem lockedConfig_of_effect {x : Input} {b u : State} (hu : Effect x b u) (hx : x ≠ .event .reset)
    (hrun : b.run = true) : lockedConfig u = lockedConfig b := by
  have hnot {P : Prop} (hstop : b.run = false) : P := absurd (hrun.symm.trans hstop) (by decide)
  cases hu with
  | tcalc _ hstop _ _ _ _ _ _ | tstart _ hstop _ _ => exact hnot hstop
  | @wrreg _ _ _ _ reg _ _ _ _ _ hwrite hne =>
    cases reg with
    | drctrl => exact absurd rfl hne
    | tctrl | tfreq | tratio | tdur | tfloor | tcomp0 | tcomp1 | tpresc | tmodn | trelmask | thdepth =>
      exact hnot (stopped_of_writeLegal hwrite rfl)
    | _ => rfl
  | reset => exact absurd rfl hx
  | _ => rfl

/-- Settles O39: the locked configuration is kept, and `RUN` with it. -/
theorem runningTimerIsFixed : Obligations.RunningTimerIsFixed := by
  intro x s t hdeliver hrun hx
  have hkept : lockedConfig t = lockedConfig s :=
    deliver_relates (R := fun s t => s.run = true → lockedConfig t = lockedConfig s) hdeliver
      (fun _ _ _ _ _ _ => Iff.rfl) (fun b u hu => lockedConfig_of_effect hu hx) hrun
  simp only [lockedConfig, Prod.mk.injEq] at hkept
  obtain ⟨hrun', ⟨hfreq, hratio, hdur, hfloor, hmask⟩, ⟨hcomp0, hcomp1⟩, ⟨hpresc, hmodn, hdepth⟩, hpol⟩ := hkept
  exact ⟨hrun'.trans hrun, hfreq, hratio, hdur, hfloor, hcomp0, hcomp1, hpresc, hmodn, hmask, hdepth, hpol⟩

end Sys2Proof.Proofs.TimerUnit
end

section
/-!
PROOFS for the rest of the state (`spec/10_state.md` rules R33 to R36): the drain unit, the interrupt flags, the fault record
and the level outputs, and with them the invariant of the whole core.
-/
namespace Sys2Proof.Proofs.CoreState

open Sys2Proof.Machine Sys2Proof.Proofs.Effects Sys2Proof.Proofs.Registers

/-! ## The drain unit -/

/-- Whatever `DrainArm` finds, it leaves no running, enabled unit disarmed with a sample in view (rule R191). -/
theorem drainInv_of_arms {s : State} {hc : List Nat} {fault : BitVec 2} {info : Word} {active : Bool}
    (harms : Arms s hc fault info active) (hwait : s.drWait = true → s.drActive = true)
    (hen : s.drActive = true → s.drEn = true) (hdepth : s.drDepth.toNat < s.cfg.ndepth) :
    DrainInv { s with hc := hc, fault := fault, faultInfo := info, drActive := active } := by
  rcases harms with ⟨⟨-, hready, -⟩, -, rfl⟩ | ⟨hnot, -, rfl, -, rfl⟩
  · exact ⟨fun _ => rfl, fun _ => hready, hdepth, fun _ hidle => Bool.noConfusion hidle⟩
  · refine ⟨hwait, hen, hdepth, fun hen' hidle hrunning => ?_⟩
    by_contra hview
    exact hnot ⟨hrunning, hen', hidle, hview⟩

theorem drainInv_of_effect {x : Input} {b u : State} (hu : Effect x b u) (hlegal : b.cfg.Legal) (h : DrainInv b) :
    DrainInv u := by
  obtain ⟨hwait, hen, hdepth, harmed⟩ := id h
  cases hu with
  | acq _ _ hrunning _ | configFault _ hrunning _ | phaseA hrunning _ _ _ =>
    exact ⟨hwait, hen, hdepth, fun hen' hidle _ => harmed hen' hidle hrunning⟩
  | pushSame _ _ _ _ harms | syncw harms => exact (drainInv_of_arms harms hwait hen hdepth :)
  | wrregDrctrl _ hwrite harms =>
    have hidle : b.drActive = false := disarmed_of_writeLegal hwrite rfl
    exact (drainInv_of_arms harms hwait (fun hact => absurd (hidle.symm.trans hact) (by decide)) hdepth :)
  | pop _ hdis _ _ _ => exact ⟨hwait, hen, hdepth, fun hen' => absurd (hdis.symm.trans hen') (by decide)⟩
  | transmit hact _ _ _ =>
    exact ⟨fun _ => hact, hen, hdepth, fun _ hidle => absurd (hact.symm.trans hidle) (by decide)⟩
  | disarm _ hnowait hempty _ =>
    exact ⟨fun hw => absurd (hnowait.symm.trans hw) (by decide), fun hact => Bool.noConfusion hact, hdepth,
      fun _ _ _ => hempty⟩
  | txc hw =>
    rcases hw with rfl | rfl
    · exact ⟨fun hw => Bool.noConfusion hw, hen, hdepth, harmed⟩
    · exact h
  | @wrreg _ _ _ w reg _ _ _ _ _ hwrite hne =>
    have hrange := rangeLegal_of_writeLegal hwrite
    cases reg with
    | drctrl => exact absurd rfl hne
    | drdepth =>
      exact ⟨hwait, hen, Nat.lt_of_le_of_lt (TimerUnit.toNat_extract_le w 4) (of_decide_eq_true hrange), harmed⟩
    | _ => exact h
  | reset => exact Scope.drainInv_resetWith hlegal
  | _ => exact h

/-! ## The fault record -/

/-- The core is halted exactly where a fault is recorded (rule R35). -/
theorem halted_eq_false_iff {s : State} : s.halted = false ↔ s.fault = 0 := by
  simp [State.halted]

/-- A core that runs records the overflow of a hold counter that exists (rules R71, R131, R213). -/
theorem faultInv_of_acquires {s : State} {d : Nat} {hc : List Nat} {fault : BitVec 2} {info : Word}
    (hacq : Acquires s d hc fault info) (hd : d < s.cfg.ndepth) (hrunning : s.halted = false) (h : FaultInv s) :
    FaultInv { s with hc := hc, fault := fault, faultInfo := info } := by
  have hzero : s.fault = 0 := halted_eq_false_iff.mp hrunning
  rcases hacq with ⟨-, -, rfl, rfl⟩ | ⟨-, -, rfl, rfl⟩
  · exact h
  · refine .inr (.inl ⟨?_, d, hd, if_pos hzero⟩)
    show s.fault ||| fatalBit .holdOvf = 1
    rw [hzero]
    rfl

theorem faultInv_of_arms {s : State} {hc : List Nat} {fault : BitVec 2} {info : Word} {active : Bool}
    (harms : Arms s hc fault info active) (hd : s.drDepth.toNat < s.cfg.ndepth) (h : FaultInv s) :
    FaultInv { s with hc := hc, fault := fault, faultInfo := info, drActive := active } := by
  rcases harms with ⟨⟨hrunning, -⟩, hacq, -⟩ | ⟨-, -, rfl, rfl, -⟩
  · exact (faultInv_of_acquires hacq hd hrunning h :)
  · exact h

theorem faultInv_of_effect {x : Input} {b u : State} (hu : Effect x b u) (htimer : TimerInv b) (hdrain : DrainInv b)
    (h : FaultInv b) : FaultInv u := by
  obtain ⟨-, -, hthdepth, -⟩ := htimer
  obtain ⟨-, -, hdrdepth, -⟩ := hdrain
  cases hu with
  | acq _ hd hrunning hacq => exact (faultInv_of_acquires hacq hd hrunning h :)
  | phaseA hrunning _ _ hacq => exact (faultInv_of_acquires hacq hthdepth hrunning h :)
  | pushSame _ _ _ _ harms | wrregDrctrl _ _ harms | syncw harms => exact (faultInv_of_arms harms hdrdepth h :)
  | @configFault _ _ code info _ _ hrunning hcode =>
    have hzero : b.fault = 0 := halted_eq_false_iff.mp hrunning
    refine .inr (.inr ?_)
    show b.fault ||| fatalBit code = 2 ∧ (if b.fault = 0 then faultWord code info else b.faultInfo) ∈ _
    simp only [hzero, if_true, List.mem_cons, Prod.mk.injEq, List.not_mem_nil, or_false] at hcode ⊢
    rcases hcode with ⟨rfl, rfl⟩ | ⟨rfl, rfl⟩ | ⟨rfl, rfl⟩ | ⟨rfl, rfl⟩ <;> simp [fatalBit, infoTCALC, infoTSTART]
  | @wrreg _ _ _ _ reg _ _ _ _ _ _ hne =>
    cases reg with
    | drctrl => exact absurd rfl hne
    | _ => exact h
  | reset => exact .inl ⟨rfl, rfl⟩
  | _ => exact h

/-- No effect but reset writes the fault record of a halted core (rules R213, R214). -/
theorem fault_of_effect {x : Input} {b u : State} (hu : Effect x b u) (hx : x ≠ .event .reset)
    (hhalted : b.halted = true) : u.fault = b.fault ∧ u.faultInfo = b.faultInfo := by
  have hnot {P : Prop} (hrunning : b.halted = false) : P := absurd (hhalted.symm.trans hrunning) (by decide)
  cases hu with
  | acq _ _ hrunning _ | configFault _ hrunning _ | phaseA hrunning _ _ _ => exact hnot hrunning
  | pushSame _ _ _ _ harms | wrregDrctrl _ _ harms | syncw harms =>
    rcases harms with ⟨⟨hrunning, -⟩, -, -⟩ | ⟨-, -, hfault, hinfo, -⟩
    · exact hnot hrunning
    · exact ⟨hfault, hinfo⟩
  | @wrreg _ _ _ _ reg _ _ _ _ _ _ hne =>
    cases reg with
    | drctrl => exact absurd rfl hne
    | _ => exact ⟨rfl, rfl⟩
  | reset => exact absurd rfl hx
  | _ => exact ⟨rfl, rfl⟩

/-- Settles O49: only an effect on a core that runs can record a fault. -/
theorem firstFatalFaultStays : Obligations.FirstFatalFaultStays := by
  intro x s t hdeliver hhalted hx
  exact deliver_relates (R := fun s t => s.halted = true → t.fault = s.fault ∧ t.faultInfo = s.faultInfo) hdeliver
    (fun _ _ _ _ _ _ => Iff.rfl) (fun b u hu => fault_of_effect hu hx) hhalted

/-! ## The interrupt flags -/

/-- The flags of `s` with some set and none cleared (rule R218). -/
def FlagsSet (s : State) (flags : BitVec 4) : Prop := ∃ new, flags = s.iflags ||| new

theorem flagsSet_self (s : State) : FlagsSet s s.iflags := ⟨0, BitVec.or_zero.symm⟩

theorem flagsSet_of_releases {s : State} {d : Nat} {hc : List Nat} {count : BitVec 16} {flags : BitVec 4}
    (h : Releases s d hc count flags) : FlagsSet s flags := by
  rcases h with ⟨-, -, -, rfl⟩ | ⟨-, -, -, rfl⟩
  · exact flagsSet_self s
  · exact ⟨_, rfl⟩

theorem flagsSet_or {s : State} {flags : BitVec 4} (h : FlagsSet s flags) (new : BitVec 4) :
    FlagsSet s (flags ||| new) := by
  obtain ⟨new', rfl⟩ := h
  exact ⟨new' ||| new, BitVec.or_assoc _ _ _⟩

theorem flagsSet_afterDrops (s : State) (count : BitVec 16) : FlagsSet s (flagsAfterDrops s count) := by
  unfold flagsAfterDrops
  split
  · exact flagsSet_self s
  · exact ⟨_, rfl⟩

/-- A write of `IFC` with a 1 in bit `k` (rule R68). -/
def ClearsFlag (x : Input) (k : Nat) : Prop :=
  ∃ p q w, x = .command p q ∧ (p = .bg ∨ p = .isr) ∧ decode q = .ok (.wrreg 0x51 w) ∧ w.getLsbD k = true

theorem flag_of_flagsSet {s : State} {flags : BitVec 4} {k : Nat} (h : FlagsSet s flags)
    (hk : s.iflags.getLsbD k = true) : flags.getLsbD k = true := by
  obtain ⟨new, rfl⟩ := h
  rw [BitVec.getLsbD_or, hk, Bool.true_or]

/-- An effect but reset leaves a flag that is set, or is a write of `IFC` that clears it (rule R219). -/
theorem flag_of_effect {x : Input} {b u : State} {k : Nat} (hu : Effect x b u) (hx : x ≠ .event .reset)
    (hk : b.iflags.getLsbD k = true) : u.iflags.getLsbD k = true ∨ ClearsFlag x k := by
  cases hu with
  | rel _ _ _ hrel | disarm _ _ _ hrel => exact .inl (flag_of_flagsSet (flagsSet_of_releases hrel) hk)
  | dropSame _ _ | syncd => exact .inl (flag_of_flagsSet (flagsSet_afterDrops b _) hk)
  | phaseA _ _ _ _ => exact .inl (flag_of_flagsSet ⟨_, rfl⟩ hk)
  | phaseB _ _ _ _ _ hrel =>
    refine .inl (flag_of_flagsSet (flagsSet_or ?_ flagPHB) hk)
    rcases hrel with hrel | ⟨-, -, rfl⟩
    · exact flagsSet_of_releases hrel
    · exact flagsSet_self b
  | @wrreg p q r w reg _ _ hp hq hreg _ hne =>
    cases reg with
    | drctrl => exact absurd rfl hne
    | intFlagClear =>
      obtain ⟨rfl, -⟩ := eq_regNumber_of_regOf hreg
      have hk4 : k < 4 := BitVec.lt_of_getLsbD hk
      by_cases hw : w.getLsbD k = true
      · exact .inr ⟨p, q, w, rfl, hp, hq, hw⟩
      · refine .inl ?_
        show (b.iflags &&& ~~~(w.extractLsb' 0 4)).getLsbD k = true
        simp [hk, hk4, hw]
    | _ => exact .inl hk
  | reset => exact absurd rfl hx
  | _ => exact .inl hk

/-- Settles O48: of all effects only a write of `IFC`, and reset, clears a flag. -/
theorem flagsClearedOnlyByIfc : Obligations.FlagsClearedOnlyByIfc := by
  intro x s t k hdeliver hset hclear
  by_cases hx : x = .event .reset
  · exact .inl hx
  · have hflag : t.iflags.getLsbD k = true ∨ ClearsFlag x k :=
      deliver_relates (R := fun s t => s.iflags.getLsbD k = true → t.iflags.getLsbD k = true ∨ ClearsFlag x k)
        hdeliver (fun _ _ _ _ _ _ => Iff.rfl) (fun b u hu => flag_of_effect hu hx) hset
    exact .inr (hflag.resolve_left (by simp [hclear]))

/-! ## The level outputs -/

/-- Settles O51: each output as `outputsOf` gives it. -/
theorem levelOutputsFollowTheState : Obligations.LevelOutputsFollowTheState := by
  intro s
  have hirq : s.irq = true ↔ s.iflags &&& s.ien ≠ 0 := by simp [State.irq]
  have hfatal : s.halted = true ↔ s.fault ≠ 0 := by simp [State.halted]
  have hstate : timerStateBit s.tstate = true ↔ s.tstate = .exciting := by
    cases s.tstate <;> simp [timerStateBit]
  exact ⟨rfl, rfl, hirq, hfatal, hstate, rfl, rfl, rfl⟩

/-! ## The whole core -/

/-- The invariant of the core but for the rest state, which `Settle()` makes true at the end of a step. -/
abbrev UnitsInv (s : State) : Prop :=
  s.cfg.Legal ∧ ArbiterInv s ∧ RingInv s ∧ TimerInv s ∧ DrainInv s ∧ FaultInv s

theorem unitsInv_of_effect {x : Input} {b u : State} (hu : Effect x b u) (h : UnitsInv b) : UnitsInv u := by
  obtain ⟨hlegal, harb, hring, htimer, hdrain, hfault⟩ := h
  exact ⟨hu.cfg ▸ hlegal, ArbiterUnit.arbiterInv_of_effect hu harb, RingUnit.ringInv_of_effect hu hlegal hring,
    TimerUnit.timerInv_of_effect hu hlegal htimer, drainInv_of_effect hu hlegal hdrain,
    faultInv_of_effect hu htimer hdrain hfault⟩

/-- Settles O58: every effect keeps the invariants of the units, and `Settle()` gives that of the rest state. -/
theorem stepKeepsInvariant : Obligations.StepKeepsInvariant := by
  rintro s t ⟨hlegal, harb, hrest, hring, htimer, hdrain, hfault⟩ hstep
  have hunits : UnitsInv t :=
    step_keeps hstep ⟨hlegal, harb, hring, htimer, hdrain, hfault⟩ (fun _ _ _ _ _ => Iff.rfl)
      (fun _ _ _ => unitsInv_of_effect)
  have hrest' : RestInv t := ArbiterUnit.restInv_of_step hstep hlegal hrest
  obtain ⟨hlegal', harb', hring', htimer', hdrain', hfault'⟩ := hunits
  exact ⟨hlegal', harb', hrest', hring', htimer', hdrain', hfault'⟩

end Sys2Proof.Proofs.CoreState
end

section
/-!
PROOFS about where the machine stops (`spec/20_memory.md` rule R81, `spec/30_encoding.md` rule R110): an access to a
slot that does not exist stops it, and where `WR` and `RD` are slots that exist nothing does.
-/
namespace Sys2Proof.Proofs.Stops

open Sys2Proof.Machine

/-! ## The outcome of an access and of a command -/

theorem atSlot_of_missing {i : Nat} {s : State} (k : Result) (h : s.cfg.rbSize ≤ i) :
    atSlot i s k = .fault (.noSuchSlot i) := if_neg (Nat.not_lt.mpr h)

theorem atSlot_of_exists {i : Nat} {s : State} (k : Result) (h : i < s.cfg.rbSize) : atSlot i s k = k := if_pos h

/-- A command whose rule has a next state has one, whichever check of rule R109 ends it. -/
theorem command_has_next {i : Instr} {body : State → Result} {s : State}
    (h : ∃ u, body (wakeAtIsr s) = .next u) : ∃ t, command i body s = .next t := by
  obtain ⟨u, hu⟩ := h
  unfold command
  split_ifs
  · exact ⟨_, rfl⟩
  · exact ⟨_, rfl⟩
  · exact ⟨settle u, by rw [hu, onNext_next]⟩

/-! ## Accesses to slots that do not exist -/

theorem exec_push_of_missing {w : Word} {s : State} (hport : s.port = .prod)
    (hfree : nextSlot s.cfg s.wr ≠ s.rdSeen) (hslot : s.cfg.rbSize ≤ s.wr) :
    exec (.push w) s = .fault (.noSuchSlot s.wr) := by
  have hlegal : staticLegal s.cfg s.port (.push w) = true := by rw [hport]; rfl
  show execPush w s = _
  rw [execPush, command_of_legal hlegal (.inr rfl), wakeAtIsr_cfg, wakeAtIsr_wr, wakeAtIsr_rdSeen, if_neg hfree,
    atSlot_of_missing (s := wakeAtIsr s) _ hslot]
  rfl

theorem exec_pop_of_missing {s : State} (hport : s.port = .cons) (hrunning : s.halted = false)
    (hdis : s.drEn = false) (hview : s.rd ≠ s.wrSeen) (hslot : s.cfg.rbSize ≤ s.rd) :
    exec .pop s = .fault (.noSuchSlot s.rd) := by
  have hlegal : staticLegal s.cfg s.port .pop = true := by rw [hport]; rfl
  have hen : ¬s.drEn = true := by simp [hdis]
  show execPop s = _
  rw [execPop, command_of_legal hlegal (.inl hrunning), wakeAtIsr_drEn, wakeAtIsr_rd, wakeAtIsr_wrSeen, if_neg hen,
    if_neg hview, atSlot_of_missing (s := wakeAtIsr s) _ hslot]
  rfl

theorem txblBody_of_missing {s : State} (hrunning : s.halted = false) (hact : s.drActive = true)
    (hwait : s.drWait = false) (hview : s.rd ≠ s.wrSeen) (hslot : s.cfg.rbSize ≤ s.rd) :
    txblBody s = .fault (.noSuchSlot s.rd) := by
  have hready : ¬(s.halted = true ∨ s.drActive = false ∨ s.drWait = true) := by simp [hrunning, hact, hwait]
  rw [txblBody, if_neg hready, if_pos hview, atSlot_of_missing _ hslot]

/-- Settles O21: each of the three accesses reaches its slot, and `atSlot` stops there. -/
theorem missingSlotStops : Obligations.MissingSlotStops := by
  refine fun w s => ⟨exec_push_of_missing, exec_pop_of_missing, fun hrunning hact hwait hview hslot => ?_⟩
  have hbody := txblBody_of_missing (s := { s with resp := none }) hrunning hact hwait hview hslot
  exact congrArg (onNext settle) hbody

/-! ## States whose indices are slots -/

/-- The part of rule R28 that the accesses to the store need: `WR` and `RD` are slots that exist. -/
abbrev IndicesAreSlots (s : State) : Prop := s.wr < s.cfg.rbSize ∧ s.rd < s.cfg.rbSize

theorem indicesAreSlots_of_coreInv {s : State} (h : CoreInv s) : IndicesAreSlots s := by
  obtain ⟨-, -, -, ⟨⟨hwr, hrd, -⟩, -⟩, -⟩ := h
  exact ⟨hwr, hrd⟩

theorem execAcq_has_next (d : Byte) (s : State) : ∃ t, execAcq d s = .next t := by
  refine command_has_next ?_
  exact ⟨_, rfl⟩

theorem execRel_has_next (d : Byte) (s : State) : ∃ t, execRel d s = .next t := by
  refine command_has_next ?_
  exact ⟨_, rfl⟩

theorem execRest_has_next (s : State) : ∃ t, execRest s = .next t := by
  refine command_has_next ?_
  exact ⟨_, rfl⟩

theorem execPush_has_next {w : Word} {s : State} (hwr : s.wr < s.cfg.rbSize) : ∃ t, execPush w s = .next t := by
  refine command_has_next ?_
  split_ifs
  · exact ⟨_, rfl⟩
  · exact ⟨_, atSlot_of_exists _ hwr⟩

theorem execPop_has_next {s : State} (hrd : s.rd < s.cfg.rbSize) : ∃ t, execPop s = .next t := by
  refine command_has_next ?_
  split_ifs
  · exact ⟨_, rfl⟩
  · exact ⟨_, rfl⟩
  · exact ⟨_, atSlot_of_exists _ hrd⟩

theorem execTcalc_has_next (s : State) : ∃ t, execTcalc s = .next t := by
  refine command_has_next ?_
  dsimp only
  split_ifs <;> exact ⟨_, rfl⟩

theorem execTstart_has_next (s : State) : ∃ t, execTstart s = .next t := by
  refine command_has_next ?_
  split_ifs <;> exact ⟨_, rfl⟩

theorem execRdreg_has_next (r : Byte) (s : State) : ∃ t, execRdreg r s = .next t := by
  refine command_has_next ?_
  split
  · exact ⟨_, rfl⟩
  · split_ifs <;> exact ⟨_, rfl⟩

theorem execWrreg_has_next (r : Byte) (w : Word) (s : State) : ∃ t, execWrreg r w s = .next t := by
  refine command_has_next ?_
  split
  · exact ⟨_, rfl⟩
  · split_ifs <;> exact ⟨_, rfl⟩

/-- Only `PUSH` and `POP` reach the store; every other command has a next state in any state. -/
theorem exec_has_next (i : Instr) {s : State} (h : IndicesAreSlots s) : ∃ t, exec i s = .next t := by
  obtain ⟨hwr, hrd⟩ := h
  cases i with
  | acq d => exact execAcq_has_next d s
  | rel d => exact execRel_has_next d s
  | rest => exact execRest_has_next s
  | push w => exact execPush_has_next hwr
  | pop => exact execPop_has_next hrd
  | tcalc => exact execTcalc_has_next s
  | tstart => exact execTstart_has_next s
  | rdreg r => exact execRdreg_has_next r s
  | wrreg r w => exact execWrreg_has_next r w s

theorem txblBody_has_next {s : State} (hrd : s.rd < s.cfg.rbSize) : ∃ t, txblBody s = .next t := by
  unfold txblBody
  split_ifs
  · exact ⟨_, rfl⟩
  · exact ⟨_, atSlot_of_exists _ hrd⟩
  · exact ⟨_, rfl⟩

/-- Only `txbl` reaches the store; every other event has a next state in any state. -/
theorem takeEvent_has_next (e : Event) {s : State} (hrd : s.rd < s.cfg.rbSize) : ∃ t, takeEvent e s = .next t := by
  cases e with
  | txbl =>
    obtain ⟨u, hu⟩ := txblBody_has_next (s := { s with resp := none }) hrd
    exact ⟨settle u, congrArg (onNext settle) hu⟩
  | oscTick | txc | wakeExt | syncw | syncr | syncd | reset => exact ⟨_, rfl⟩

/-- A packet that holds no command is answered, and so has a next state too (rule R110). -/
theorem deliver_has_next (x : Input) {s : State} (h : IndicesAreSlots s) : ∃ t, deliver x s = .next t := by
  cases x with
  | event e => exact takeEvent_has_next e h.2
  | command p q =>
    rw [deliver]
    split
    · exact exec_has_next _ (s := acceptAt p s) h
    · exact ⟨_, rfl⟩

theorem step_has_next {s : State} (h : IndicesAreSlots s) : ∃ t, step s = .next t := by
  unfold step
  split
  · exact ⟨s, rfl⟩
  · next x rest _ => exact deliver_has_next x (s := { s with inputs := rest }) h

/-- Settles O59: by the invariant of the ring buffer `WR` and `RD` are slots that exist. -/
theorem invariantStatesNeverStop : Obligations.InvariantStatesNeverStop := by
  intro s hinv
  have hslots := indicesAreSlots_of_coreInv hinv
  exact ⟨fun x => deliver_has_next x hslots, step_has_next hslots⟩

end Sys2Proof.Proofs.Stops
end

section
/-!
PROOFS about the two clock domains (`spec/20_memory.md` rules R88, R92): in `TWO_DOMAIN` each leaves what the other
writes, and fair deliveries cure a stale view.
-/
namespace Sys2Proof.Proofs.Domains

open Sys2Proof.Machine Sys2Proof.Proofs.Effects

/-! ## What each domain leaves -/

/-- What the producer writes and what it sees: `WR`, `RD_SEEN`, `DROP_CNT` and the store. -/
def producerSide (s : State) : Nat × Nat × BitVec 16 × Memory := (s.wr, s.rdSeen, s.dropCnt, s.buf)

/-- In `TWO_DOMAIN` a view stays where its index moves (rule R146). -/
theorem view_of_twoDomain {c : CdcMode} {index old view : Nat} (h : ViewFollows c index old view)
    (hcdc : c = .twoDomain) : view = old := by
  rcases h with ⟨hsame, -⟩ | ⟨-, hview⟩
  · exact absurd (hsame.symm.trans hcdc) (by decide)
  · exact hview

/-- In `TWO_DOMAIN` no effect in the core domain but the delivery of `RD` and reset reaches the producer side. -/
theorem producerSide_of_effect {x : Input} {b u : State} (hu : Effect x b u) (hcdc : b.cfg.cdc = .twoDomain)
    (hprod : ∀ q, x ≠ .command .prod q) (hsyncr : x ≠ .event .syncr) (hreset : x ≠ .event .reset) :
    producerSide u = producerSide b := by
  cases hu with
  | dropSame _ _ | dropApart _ _ | pushSame _ _ _ _ _ | pushApart _ _ _ _ => exact absurd rfl (hprod _)
  | pop _ _ _ _ hview | transmit _ _ _ hview =>
    obtain rfl := view_of_twoDomain hview hcdc
    rfl
  | syncr => exact absurd rfl hsyncr
  | reset => exact absurd rfl hreset
  | @wrreg _ _ _ _ reg _ _ _ _ _ _ hne =>
    cases reg with
    | drctrl => exact absurd rfl hne
    | _ => rfl
  | _ => rfl

/-- In `TWO_DOMAIN` a command at `PROD` writes `WR`, `DROP_CNT`, the store and its response, whatever it is. -/
theorem effect_of_producer {q : Packet} {b u : State} (hu : Effect (.command .prod q) b u)
    (hcdc : b.cfg.cdc = .twoDomain) :
    ∃ wr dropCnt buf resp, u = { b with wr := wr, dropCnt := dropCnt, buf := buf, resp := resp } := by
  cases hu with
  | refused _ | dropApart _ _ | pushApart _ _ _ _ => exact ⟨_, _, _, _, rfl⟩
  | dropSame _ hsame | pushSame _ _ _ hsame _ => exact absurd (hsame.symm.trans hcdc) (by decide)
  | acq hport _ _ _ | rel hport _ _ _ | configFault hport _ _ | tcalc hport _ _ _ _ _ _ _ | tstart hport _ _ _
  | rdreg hport | wrreg hport _ _ _ _ | wrregDrctrl hport _ _ => exact absurd hport (by decide)

/-- Settles O24: the effects of the core domain leave the producer side, and those of a command at `PROD` leave the core
domain. -/
theorem domainsMeetOnlyAtDeliveries : Obligations.DomainsMeetOnlyAtDeliveries := by
  refine fun x s t hcdc hdeliver => ⟨fun hprod hsyncr hreset => ?_, ?_⟩
  · have hside : producerSide t = producerSide s :=
      deliver_relates (R := fun s t => s.cfg.cdc = .twoDomain → producerSide t = producerSide s) hdeliver
        (fun _ _ _ _ _ _ => Iff.rfl) (fun b u hu hb => producerSide_of_effect hu hb hprod hsyncr hreset) hcdc
    simpa only [producerSide, Prod.mk.injEq] using hside
  · rintro ⟨q, rfl⟩
    obtain ⟨u, hu, rfl⟩ := deliver_effect hdeliver
    obtain ⟨wr, dropCnt, buf, resp, rfl⟩ := effect_of_producer hu hcdc
    rfl

/-! ## Fair deliveries -/

/-- What the delivery of an event makes true is true at a later point of a run in which the event is still to come. -/
theorem eventually_of_delivery {st : Nat → State} {inp : Nat → Input} {e : Event} {P : State → Prop} {n : Nat}
    (hrun : IsRun st inp) (hmakes : ∀ s t, deliver (eventInput e) s = .next t → P t)
    (hcomes : ∃ m, n ≤ m ∧ inp m = eventInput e) : ∃ m, n < m ∧ P (st m) := by
  obtain ⟨m, hnm, hm⟩ := hcomes
  exact ⟨m + 1, Nat.lt_succ_of_le hnm, hmakes _ _ (hm ▸ hrun m)⟩

/-- `syncw` shows the write index, also where it arms the drain unit (rule R143). -/
theorem wrSeen_of_syncw {s t : State} (h : deliver (eventInput .syncw) s = .next t) : t.wrSeen = t.wr := by
  obtain ⟨u, hu, rfl⟩ := deliver_effect h
  cases hu
  rfl

/-- `syncr` shows the read index (rule R144). -/
theorem rdSeen_of_syncr {s t : State} (h : deliver (eventInput .syncr) s = .next t) : t.rdSeen = t.rd := by
  obtain ⟨u, hu, rfl⟩ := deliver_effect h
  cases hu
  rfl

/-- `syncd` shows the drop count (rule R145). -/
theorem dropSeen_of_syncd {s t : State} (h : deliver (eventInput .syncd) s = .next t) : t.dropSeen = t.dropCnt := by
  obtain ⟨u, hu, rfl⟩ := deliver_effect h
  cases hu
  rfl

/-- Settles O28: fairness brings the delivery of a stale view, and right after its delivery the view is not stale. -/
theorem fairRunsCureStaleViews : Obligations.FairRunsCureStaleViews := by
  rintro st inp hrun ⟨hsyncw, hsyncr, hsyncd⟩ n
  exact ⟨fun hstale => eventually_of_delivery hrun (fun _ _ => wrSeen_of_syncw) (hsyncw n hstale),
    fun hstale => eventually_of_delivery hrun (fun _ _ => rdSeen_of_syncr) (hsyncr n hstale),
    fun hstale => eventually_of_delivery hrun (fun _ _ => dropSeen_of_syncd) (hsyncd n hstale)⟩

end Sys2Proof.Proofs.Domains
end

section
/-!
PROOFS for the encoding (`spec/30_encoding.md`): the decoder accepts exactly the words that the encoder writes (rules
R101 to R105), and a packet laid out as bytes is read back (`spec/20_memory.md` rule R83).
-/
namespace Sys2Proof.Proofs.Encoding

/-! ## The command word and its fields -/

/-- The command word is its three fields side by side (rule R102). -/
theorem append_fields (c : Word) : opcField c ++ zField c ++ aField c = c := by
  unfold opcField zField aField
  rw [BitVec.extractLsb'_append_extractLsb'_eq_extractLsb' (by rfl),
    BitVec.extractLsb'_append_extractLsb'_eq_extractLsb' (by rfl), BitVec.extractLsb'_eq_self]

/-- A word is the encoder's command word exactly when its fields are the command's (rules R102, R103). -/
theorem eq_encode_cmd_iff {c : Word} {i : Instr} :
    c = (encode i).cmd ↔ zField c = 0 ∧ opcField c = opcodeOf i ∧ aField c = argumentOf i := by
  constructor
  · rintro rfl
    obtain ⟨hopc, hz, ha⟩ := Laws.fields_of_append (opcodeOf i) (argumentOf i)
    exact ⟨hz, hopc, ha⟩
  · rintro ⟨hz, hopc, ha⟩
    rw [← append_fields c, hz, hopc, ha]
    rfl

/-! ## The decoder -/

/-- The commands that take their data word (rule R101). -/
abbrev CarriesData (i : Instr) : Prop := (∃ w, i = .push w) ∨ ∃ r w, i = .wrreg r w

/-- Formats `N` and `V` accept the argument 0 alone (rule R103). -/
theorem withoutArgument_eq_ok {a : Byte} {i j : Instr} : withoutArgument a j = .ok i ↔ a = 0 ∧ j = i := by
  unfold withoutArgument
  split <;> simp_all

/-- The decoder is left only by the nine rows of the opcode map (rule R105), each with its own fields. -/
theorem fields_of_decode {p : Packet} {i : Instr} (h : decode p = .ok i) :
    zField p.cmd = 0 ∧ opcField p.cmd = opcodeOf i ∧ aField p.cmd = argumentOf i ∧
      (CarriesData i → p.wdata = dataOf i) := by
  unfold decode at h
  split at h
  · cases h
  next hz =>
  refine ⟨not_not.mp hz, ?_⟩
  split at h
  case h_1 hopc | h_2 hopc | h_8 hopc | h_9 hopc =>
    cases h
    exact ⟨BitVec.eq_of_toNat_eq hopc, rfl, by simp [CarriesData, dataOf]⟩
  case h_3 hopc | h_4 hopc | h_5 hopc | h_6 hopc | h_7 hopc =>
    obtain ⟨ha, rfl⟩ := withoutArgument_eq_ok.mp h
    exact ⟨BitVec.eq_of_toNat_eq hopc, ha, by simp [CarriesData, dataOf]⟩
  case h_10 => cases h

/-- A packet with the fields of a command, and its data word where that is taken, decodes to it. -/
theorem decode_of_fields {p : Packet} {i : Instr} (hz : zField p.cmd = 0) (hopc : opcField p.cmd = opcodeOf i)
    (ha : aField p.cmd = argumentOf i) (hdata : CarriesData i → p.wdata = dataOf i) : decode p = .ok i := by
  rw [decode, if_neg (not_not.mpr hz), hopc, ha]
  cases i with
  | push w => rw [hdata (.inl ⟨w, rfl⟩)]; rfl
  | wrreg r w => rw [hdata (.inr ⟨r, w, rfl⟩)]; rfl
  | _ => rfl

/-- Settles O2: the command word fixes the three fields, and the decoder reads nothing else but the data word of `PUSH`
and `WRREG`. -/
theorem decodeAcceptsExactlyTheMap : Obligations.DecodeAcceptsExactlyTheMap := by
  intro p i
  rw [eq_encode_cmd_iff]
  constructor
  · intro h
    obtain ⟨hz, hopc, ha, hdata⟩ := fields_of_decode h
    exact ⟨⟨hz, hopc, ha⟩, hdata⟩
  · rintro ⟨⟨hz, hopc, ha⟩, hdata⟩
    exact decode_of_fields hz hopc ha hdata

/-- The packet of a command decodes to it. -/
theorem decode_encode (i : Instr) : decode (encode i) = .ok i :=
  (decodeAcceptsExactlyTheMap (encode i) i).mpr ⟨rfl, fun _ => rfl⟩

/-! ## Packets as bytes -/

/-- The four bytes of a word make up the word (rule R83). -/
theorem append_bytes (w : Word) :
    wordOfBytes (w.extractLsb' 0 8) (w.extractLsb' 8 8) (w.extractLsb' 16 8) (w.extractLsb' 24 8) = w := by
  unfold wordOfBytes
  rw [BitVec.extractLsb'_append_extractLsb'_eq_extractLsb' (by rfl),
    BitVec.extractLsb'_append_extractLsb'_eq_extractLsb' (by rfl),
    BitVec.extractLsb'_append_extractLsb'_eq_extractLsb' (by rfl), BitVec.extractLsb'_eq_self]

/-- A packet laid out as bytes is read back. -/
theorem packetOfBytes_packetToBytes (p : Packet) : packetOfBytes (packetToBytes p) = some p := by
  show some (Packet.mk (wordOfBytes _ _ _ _) (wordOfBytes _ _ _ _)) = some p
  rw [append_bytes, append_bytes]

/-- The bytes of a packet decode as the packet does. -/
theorem decodeBytes_packetToBytes {p : Packet} {i : Instr} (h : decode p = .ok i) :
    decodeBytes (packetToBytes p) = some i := by
  rw [decodeBytes, packetOfBytes_packetToBytes]
  simp only [h]

/-- Settles O1: the bytes give the packet back, and its fields are those of the command. -/
theorem decodeOfEncode : Obligations.DecodeOfEncode :=
  fun i => ⟨decode_encode i, decodeBytes_packetToBytes (decode_encode i)⟩

/-- Settles O3: the decoder evaluated on nine words that are written out. -/
theorem writtenWordsDecode : Obligations.WrittenWordsDecode :=
  ⟨rfl, rfl, rfl, rfl, rfl, rfl, rfl, rfl, rfl⟩

end Sys2Proof.Proofs.Encoding
end

section
/-!
PROOFS for the frame of a command (`spec/30_encoding.md` rules R107 to R109): what static legality and the halt turn away,
and the commands of the ring buffer (`spec/41_ringbuffer.md` rules R141, R142) inside that frame.
-/
namespace Sys2Proof.Proofs.CommandFrame

open Sys2Proof.Machine Sys2Proof.Proofs.Effects Sys2Proof.Proofs.Registers

/-! ## What the frame turns away -/

/-- Every command runs in the frame of rule R109. -/
theorem exec_eq_command (i : Instr) (s : State) : ∃ body, exec i s = command i body s := by
  cases i <;>
    simp only [exec, execAcq, execRel, execRest, execPush, execPop, execTcalc, execTstart, execRdreg, execWrreg] <;>
    exact ⟨_, rfl⟩

/-- A command that is not statically legal changes nothing but for the wake (rule R109 (2)). -/
theorem exec_of_illegal {i : Instr} {s : State} (h : staticLegal s.cfg s.port i = false) :
    exec i s = .next (answered s s .illegal 0) := by
  obtain ⟨body, hbody⟩ := exec_eq_command i s
  rw [hbody, command, if_pos h, settle_respond_self]

/-- A command that a halted core does not serve changes nothing but for the wake (rule R109 (3)). -/
theorem exec_of_halted {i : Instr} {s : State} (hlegal : staticLegal s.cfg s.port i = true) (hhalted : s.halted = true)
    (hserved : servedWhenHalted i = false) : exec i s = .next (answered s s .faulted 0) := by
  obtain ⟨body, hbody⟩ := exec_eq_command i s
  have hnotIllegal : ¬staticLegal s.cfg s.port i = false := by simp [hlegal]
  rw [hbody, command, if_neg hnotIllegal, if_pos ⟨hhalted, hserved⟩, settle_respond_self]

/-- A halted core is awake at the end of a command (rule R221). -/
theorem answered_of_halted {s t : State} (st : Status) (data : Word) (h : t.halted = true) :
    answered s t st data = { t with restCur := 0, resp := some ⟨s.port, st, data⟩ } := by
  rw [answered, if_pos (.inr (.inr h))]

theorem servedWhenHalted_eq_false {i : Instr} (hrdreg : ∀ r, i ≠ .rdreg r) (hpush : ∀ w, i ≠ .push w) :
    servedWhenHalted i = false := by
  cases i with
  | rdreg r => exact absurd rfl (hrdreg r)
  | push w => exact absurd rfl (hpush w)
  | _ => rfl

/-- Settles O8: the halt turns away every legal command but the two it serves. -/
theorem haltedCoreAnswersFaulted : Obligations.HaltedCoreAnswersFaulted := by
  intro i s hhalted hlegal hrdreg hpush
  rw [exec_of_halted hlegal hhalted (servedWhenHalted_eq_false hrdreg hpush), answered_of_halted _ _ hhalted]

/-! ## Static legality -/

section StaticLegality

variable {c : Params} {p : Port} {i : Instr}

theorem staticLegal_of_malformed (h : i.wellFormed c = false) : staticLegal c p i = false := by
  rw [staticLegal, h, Bool.false_and]

theorem staticLegal_of_wrongPort (h : portAllows p i = false) : staticLegal c p i = false := by
  rw [staticLegal, h, Bool.and_false]

/-- The ports of the ring buffer take no command but `PUSH` and `POP` (rule R107). -/
theorem portAllows_of_ringPort (hp : p = .prod ∨ p = .cons) (hpush : ∀ w, i ≠ .push w) (hpop : i ≠ .pop) :
    portAllows p i = false := by
  rw [← Bool.not_eq_true]
  intro hallows
  rcases hp with rfl | rfl <;> simpa using port_of_portAllows hallows hpush hpop

/-- A command with an illegal operand, or at a port of the ring buffer that is not its own, is not legal (rules R107,
R108). -/
theorem staticLegal_of_operand_or_ringPort (h : i.wellFormed c = false ∨ p = .prod ∨ p = .cons)
    (hpush : ∀ w, i ≠ .push w) (hpop : i ≠ .pop) : staticLegal c p i = false := by
  rcases h with hoperand | hport
  · exact staticLegal_of_malformed hoperand
  · exact staticLegal_of_wrongPort (portAllows_of_ringPort hport hpush hpop)

theorem portAllows_rest_eq_false (hp : p ≠ .bg) : portAllows p .rest = false := by cases p <;> simp_all [portAllows]

theorem portAllows_push_eq_false {w : Word} (hp : p ≠ .prod) : portAllows p (.push w) = false := by
  cases p <;> simp_all [portAllows]

theorem portAllows_pop_eq_false (hp : p ≠ .cons) : portAllows p .pop = false := by cases p <;> simp_all [portAllows]

end StaticLegality

section Deliver

variable {p : Port} {packet : Packet} {s : State}

/-- A packet that holds no command is answered as a command that is not legal (rule R108). -/
theorem deliver_of_undecoded {e : DecodeError} (h : decode packet = .error e) :
    deliver (.command p packet) s = .next (answered { s with port := p } { s with port := p } .illegal 0) := by
  rw [deliver, h]
  exact congrArg Host.Outcome.next (settle_respond_self (acceptAt p s) .illegal 0)

theorem deliver_of_illegal {i : Instr} (hdecode : decode packet = .ok i) (hillegal : staticLegal s.cfg p i = false) :
    deliver (.command p packet) s = .next (answered { s with port := p } { s with port := p } .illegal 0) := by
  rw [Scope.deliver_of_decode s hdecode]
  exact exec_of_illegal hillegal

end Deliver

/-- Settles O7: the packet does not decode, or the command it holds has an illegal operand or the wrong port. -/
theorem staticallyIllegalIsRefused : Obligations.StaticallyIllegalIsRefused := by
  intro p packet s hcause
  rcases hcause with ⟨e, he⟩ | ⟨d, hd, hill⟩ | ⟨hd, hport⟩ | ⟨hd, hport⟩ | ⟨⟨w, hd⟩, hport⟩ | ⟨hd, hport⟩ |
    ⟨r, hd, hill⟩
  · exact deliver_of_undecoded he
  · have hoperand : decide (d.toNat < s.cfg.ndepth) = false ∨ p = .prod ∨ p = .cons :=
      hill.imp_left fun hdepth => decide_eq_false (Nat.not_lt.mpr hdepth)
    rcases hd with hd | hd <;>
      exact deliver_of_illegal hd (staticLegal_of_operand_or_ringPort hoperand (by simp) (by simp))
  · exact deliver_of_illegal hd (staticLegal_of_wrongPort (portAllows_rest_eq_false hport))
  · rcases hd with hd | hd <;>
      exact deliver_of_illegal hd (staticLegal_of_operand_or_ringPort (.inr hport) (by simp) (by simp))
  · exact deliver_of_illegal hd (staticLegal_of_wrongPort (portAllows_push_eq_false hport))
  · exact deliver_of_illegal hd (staticLegal_of_wrongPort (portAllows_pop_eq_false hport))
  · have hoperand : (regOf s.cfg.ndepth r).isSome = false ∨ p = .prod ∨ p = .cons :=
      hill.imp_left fun hreserved => Option.isSome_eq_false_iff.mpr (Option.isNone_iff_eq_none.mpr hreserved)
    rcases hd with hd | ⟨w, hd⟩ <;>
      exact deliver_of_illegal hd (staticLegal_of_operand_or_ringPort hoperand (by simp) (by simp))

/-! ## The frame at a port that wakes nothing by itself (rule R109 (1)) -/

section AwayFromIsr

variable {s t : State}

theorem wakeAtIsr_of_ne_isr (hport : s.port ≠ .isr) : wakeAtIsr s = s := by rw [wakeAtIsr, if_neg hport]

theorem settle_respond_of_ne_isr (st : Status) (data : Word) (hport : s.port ≠ .isr) (hsame : t.port = s.port) :
    settle (respond st data t) = answered s t st data := by
  simp [settle, respond, answered, State.irq, State.halted, hport, hsame]

end AwayFromIsr

/-! ## POP -/

/-- At `CONS` of a core that runs, `POP` comes to its rule (rules R107, R109, R142). -/
theorem exec_pop_of_running {s : State} (hport : s.port = .cons) (hrunning : s.halted = false) :
    exec .pop s =
      onNext settle
        (if s.drEn = true then .next (respond .illegal 0 s)
        else if s.rd = s.wrSeen then .next (respond .empty 0 s)
        else atSlot s.rd s (.next (respond .ok (memRead s.rd s) (advanceRead s)))) := by
  have hlegal : staticLegal s.cfg s.port .pop = true := by rw [hport]; rfl
  show execPop s = _
  rw [execPop, command_of_legal hlegal (.inl hrunning), wakeAtIsr_of_ne_isr (by simp [hport])]

/-- Settles O20: the two checks that stand before the access to the slot. -/
theorem popRefusedOrEmpty : Obligations.PopRefusedOrEmpty := by
  intro s hport hrunning
  have hnotIsr : s.port ≠ .isr := by simp [hport]
  rw [exec_pop_of_running hport hrunning]
  refine ⟨fun hen => ?_, fun hdis hempty => ?_⟩
  · rw [if_pos hen, onNext_next, settle_respond_of_ne_isr .illegal 0 hnotIsr rfl]
  · have hnotEn : ¬s.drEn = true := by simp [hdis]
    rw [if_neg hnotEn, if_pos hempty, onNext_next, settle_respond_of_ne_isr .empty 0 hnotIsr rfl]

/-! ## PUSH -/

section Push

variable {w : Word} {s t : State}

/-- At `PROD`, with a slot free that exists, `PUSH` stores the sample and advances `WR` (rule R141). -/
theorem exec_push_of_free (hport : s.port = .prod) (hfree : nextSlot s.cfg s.wr ≠ s.rdSeen)
    (hslot : s.wr < s.cfg.rbSize) (hadvance : advanceWrite (memWrite s.wr (sampleOf s.cfg w) s) = t)
    (hsame : t.port = s.port) :
    exec (.push w) s = .next (answered s t .ok 0) := by
  have hlegal : staticLegal s.cfg s.port (.push w) = true := by rw [hport]; rfl
  have hnotIsr : s.port ≠ .isr := by simp [hport]
  show execPush w s = _
  rw [execPush, command_of_legal hlegal (.inr rfl), wakeAtIsr_of_ne_isr hnotIsr, if_neg hfree,
    Stops.atSlot_of_exists _ hslot, onNext_next, hadvance, settle_respond_of_ne_isr .ok 0 hnotIsr hsame]

theorem advanceWrite_of_twoDomain (hcdc : s.cfg.cdc = .twoDomain) :
    advanceWrite s = { s with wr := nextSlot s.cfg s.wr } := by
  rw [advanceWrite, hcdc]

/-- In `SAME_DOMAIN` the consumer's view moves with `WR`; where that arms nothing it is all that happens (rules R143,
R146, R191). -/
theorem advanceWrite_of_sameDomain (hcdc : s.cfg.cdc = .sameDomain)
    (hidle : ¬ReadyToArm { s with wrSeen := nextSlot s.cfg s.wr }) :
    advanceWrite s = { s with wr := nextSlot s.cfg s.wr, wrSeen := nextSlot s.cfg s.wr } := by
  rw [advanceWrite, hcdc]
  exact if_neg hidle

theorem not_readyToArm (h : s.drEn = false ∨ s.drActive = true ∨ s.halted = true ∨ s.rd = s.wrSeen) :
    ¬ReadyToArm s := by
  rintro ⟨hrunning, hen, hdisarmed, hview⟩
  rcases h with h | h | h | h
  · exact Bool.noConfusion (h.symm.trans hen)
  · exact Bool.noConfusion (h.symm.trans hdisarmed)
  · exact Bool.noConfusion (h.symm.trans hrunning)
  · exact hview h

end Push

/-- Settles O16: the store after the write of the sample at `WR`, and what `advanceWrite` makes of `WR` and its view. -/
theorem pushStoresSample : Obligations.PushStoresSample := by
  intro w s hport hfree hslot
  refine ⟨s.buf.write s.wr (sampleOf s.cfg w), ⟨?_, fun a ha => ?_⟩, fun hcdc => ?_, fun hcdc hidle => ?_⟩
  · rw [Memory.read?_write, if_pos rfl]
    rfl
  · rw [Memory.read?_write, if_neg ha]
  · exact exec_push_of_free hport hfree hslot (advanceWrite_of_twoDomain hcdc) rfl
  · exact exec_push_of_free hport hfree hslot (advanceWrite_of_sameDomain hcdc (not_readyToArm hidle)) rfl

end Sys2Proof.Proofs.CommandFrame
end

section
/-!
PROOFS for the commands of the sleep arbiter (`spec/40_arbiter.md` rules R130 to R138): `ACQ`, `REL` and `REST` inside the
frame of a command, and the balance of holds and releases over a schedule.
-/
namespace Sys2Proof.Proofs.ArbiterCommands

open Sys2Proof.Machine Sys2Proof.Proofs.Registers

/-! ## REST -/

/-- `Choose()` is the least depth with a hold (rule R130). -/
theorem choose_of_shallowest {s : State} {d : Nat} (hd : d < s.cfg.ndepth) (hheld : s.holds d ≠ 0)
    (hshallow : ∀ e, e < d → s.holds e = 0) : choose s = d := by
  have hfind : (List.range s.cfg.ndepth).find? (fun e => s.holds e != 0) = some d := by
    rw [List.find?_range_eq_some]
    exact ⟨by simpa using hheld, List.mem_range.mpr hd, fun e he => by simp [hshallow e he]⟩
  rw [choose, hfind, Option.getD_some]

/-- `Choose()` is the deepest depth where there is no hold (rule R130). -/
theorem choose_of_no_hold {s : State} (hnone : ∀ e, e < s.cfg.ndepth → s.holds e = 0) :
    choose s = s.cfg.ndepth - 1 := by
  have hfind : (List.range s.cfg.ndepth).find? (fun e => s.holds e != 0) = none := by
    rw [List.find?_eq_none]
    exact fun e he => by simp [hnone e (List.mem_range.mp he)]
  rw [choose, hfind, Option.getD_none, Params.deepest]

/-- At `BG` of a core that runs, `REST` enters and answers the depth of `Choose()` (rule R135). -/
theorem exec_rest {s : State} (hport : s.port = .bg) (hrunning : s.halted = false) :
    exec .rest s =
      .next (answered s { s with restCur := depthField (choose s) } .ok (wordOfNat (choose s))) := by
  have hlegal : staticLegal s.cfg s.port .rest = true := by rw [hport]; rfl
  have hnotIsr : s.port ≠ .isr := by simp [hport]
  show execRest s = _
  rw [execRest, command_of_legal hlegal (.inl hrunning), CommandFrame.wakeAtIsr_of_ne_isr hnotIsr, onNext_next]
  exact congrArg Host.Outcome.next (CommandFrame.settle_respond_of_ne_isr .ok _ hnotIsr rfl)

/-- Settles O13: either way the depth named is the one that `Choose()` gives. -/
theorem restEntersShallowestHeldDepth : Obligations.RestEntersShallowestHeldDepth := by
  intro d s hport hrunning hdepth
  have hchoose : choose s = d := by
    rcases hdepth with ⟨hd, hheld, hshallow⟩ | ⟨hnone, rfl⟩
    · exact choose_of_shallowest hd hheld hshallow
    · exact choose_of_no_hold hnone
  rw [exec_rest hport hrunning, hchoose]
  rfl

/-! ## Acquire and Release -/

section HoldOperations

variable {s : State} {d : Nat}

theorem acquire_of_room (h : s.holds d ≠ s.cfg.hcMax) : acquire d s = { s with hc := s.hc.set d (s.holds d + 1) } :=
  if_neg h

theorem acquire_of_full (h : s.holds d = s.cfg.hcMax) : acquire d s = raiseFatal .holdOvf d s := if_pos h

theorem release_of_held (h : 0 < s.holds d) : release d s = { s with hc := s.hc.set d (s.holds d - 1) } := if_pos h

theorem release_of_none (h : s.holds d = 0) :
    release d s = { s with dblRelCnt := countEvent s.dblRelCnt, iflags := s.iflags ||| flagDBLREL } :=
  if_neg (by omega)

@[simp] theorem acquire_port (d : Nat) (s : State) : (acquire d s).port = s.port := by
  rcases acquire_cases d s with ⟨-, h⟩ | ⟨-, h⟩ <;> simp [h]

@[simp] theorem acquire_restCur (d : Nat) (s : State) : (acquire d s).restCur = s.restCur := by
  rcases acquire_cases d s with ⟨-, h⟩ | ⟨-, h⟩ <;> simp [h]

@[simp] theorem release_port (d : Nat) (s : State) : (release d s).port = s.port := by
  rcases release_cases d s with ⟨-, h⟩ | ⟨-, h⟩ <;> simp [h]

@[simp] theorem release_restCur (d : Nat) (s : State) : (release d s).restCur = s.restCur := by
  rcases release_cases d s with ⟨-, h⟩ | ⟨-, h⟩ <;> simp [h]

theorem holds_set_same {v : Nat} (h : d < s.hc.length) : { s with hc := s.hc.set d v }.holds d = v :=
  (ArbiterUnit.getD_set s.hc d v d).trans (if_pos ⟨rfl, h⟩)

/-- `Acquire(d)` neither sees nor writes the rest state. -/
theorem acquire_wakeAtIsr (d : Nat) (s : State) :
    acquire d (wakeAtIsr s) = { acquire d s with restCur := (wakeAtIsr s).restCur } := by
  by_cases h : s.holds d = s.cfg.hcMax
  · rw [acquire_of_full h, acquire_of_full (s := wakeAtIsr s) h]
    rfl
  · rw [acquire_of_room h, acquire_of_room (s := wakeAtIsr s) h]
    rfl

/-- `Release(d)` neither sees nor writes the rest state. -/
theorem release_wakeAtIsr (d : Nat) (s : State) :
    release d (wakeAtIsr s) = { release d s with restCur := (wakeAtIsr s).restCur } := by
  rcases Nat.eq_zero_or_pos (s.holds d) with h | h
  · rw [release_of_none h, release_of_none (s := wakeAtIsr s) h]
    rfl
  · rw [release_of_held h, release_of_held (s := wakeAtIsr s) h]
    rfl

/-- The record of a hold overflow, `{d, 1}`, as a number (rules R71, R213). -/
theorem faultWord_holdOvf (d : Nat) : faultWord .holdOvf d = BitVec.ofNat 32 (256 * d + 1) := by
  refine BitVec.eq_of_toNat_eq ?_
  rw [faultWord, fatalCodeByte, BitVec.toNat_append, BitVec.toNat_ofNat, BitVec.toNat_ofNat,
    ← Nat.shiftLeft_add_eq_or_of_lt (by decide), Nat.shiftLeft_eq]
  show d % 2 ^ 24 * 2 ^ 8 + 1 = (256 * d + 1) % 2 ^ 32
  omega

/-- The first fatal fault is recorded whole (rule R213). -/
theorem raiseFatal_holdOvf_of_running (d : Nat) (hrunning : s.halted = false) :
    raiseFatal .holdOvf d s = { s with fault := 1, faultInfo := BitVec.ofNat 32 (256 * d + 1) } := by
  have hzero : s.fault = 0 := CoreState.halted_eq_false_iff.mp hrunning
  rw [raiseFatal, if_pos hzero, hzero, faultWord_holdOvf]
  rfl

/-- An event counter stays at 65535, and goes up by one below it (rules R8, R23). -/
theorem countEvent_eq (c : BitVec 16) : countEvent c = if c = 65535 then 65535 else c + 1 := by
  unfold countEvent evtMax
  by_cases h : c = 65535
  · subst h
    rfl
  · rw [if_neg h, if_pos (by bv_omega)]

theorem toNat_countEvent (c : BitVec 16) : (countEvent c).toNat = min 65535 (c.toNat + 1) := by
  rw [countEvent_eq]
  split_ifs with h
  · rw [h]
    rfl
  · bv_omega

end HoldOperations

/-! ## ACQ and REL -/

section HoldCommands

variable {s : State} {d : Byte}

/-- `ACQ` and `REL` of a depth that exists are legal at `BG` and at `ISR` (rules R107, R108). -/
theorem staticLegal_of_hold {i : Instr} (hport : s.port = .bg ∨ s.port = .isr) (hd : d.toNat < s.cfg.ndepth)
    (hi : i = .acq d ∨ i = .rel d) : staticLegal s.cfg s.port i = true := by
  rcases hi with rfl | rfl <;> rcases hport with h | h <;>
    simp [staticLegal, Instr.wellFormed, portAllows, h, hd]

theorem respondOkOrFaulted_status (s : State) :
    respondOkOrFaulted s = respond (if s.halted then .faulted else .ok) 0 s := by
  unfold respondOkOrFaulted
  split <;> rfl

/-- `ACQ` at a core that runs is `Acquire(d)`, answered by whether the core then still runs (rules R106, R133). -/
theorem exec_acq (hport : s.port = .bg ∨ s.port = .isr) (hrunning : s.halted = false) (hd : d.toNat < s.cfg.ndepth) :
    exec (.acq d) s =
      .next (answered s (acquire d.toNat s) (if (acquire d.toNat s).halted then .faulted else .ok) 0) := by
  have hlegal : staticLegal s.cfg s.port (.acq d) = true := staticLegal_of_hold hport hd (.inl rfl)
  show execAcq d s = _
  rw [execAcq, command_of_legal hlegal (.inl hrunning), onNext_next, respondOkOrFaulted_status, acquire_wakeAtIsr]
  exact congrArg Host.Outcome.next (settle_respond _ 0 (acquire_port _ s) (acquire_restCur _ s))

/-- `REL` at a core that runs is `Release(d)`, answered `OK` (rule R134). -/
theorem exec_rel (hport : s.port = .bg ∨ s.port = .isr) (hrunning : s.halted = false) (hd : d.toNat < s.cfg.ndepth) :
    exec (.rel d) s = .next (answered s (release d.toNat s) .ok 0) := by
  have hlegal : staticLegal s.cfg s.port (.rel d) = true := staticLegal_of_hold hport hd (.inr rfl)
  show execRel d s = _
  rw [execRel, command_of_legal hlegal (.inl hrunning), onNext_next, release_wakeAtIsr]
  exact congrArg Host.Outcome.next (settle_respond .ok 0 (release_port _ s) (release_restCur _ s))

/-- `ACQ` below `HCMAX` (rule R131). -/
theorem exec_acq_of_room (hport : s.port = .bg ∨ s.port = .isr) (hrunning : s.halted = false)
    (hd : d.toNat < s.cfg.ndepth) (hroom : s.holds d.toNat < s.cfg.hcMax) :
    exec (.acq d) s = .next (answered s { s with hc := s.hc.set d.toNat (s.holds d.toNat + 1) } .ok 0) := by
  have hstatus : (if s.halted then Status.faulted else .ok) = .ok := by rw [hrunning]; rfl
  rw [exec_acq hport hrunning hd, acquire_of_room hroom.ne]
  exact congrArg (fun st => Host.Outcome.next (answered s _ st 0)) hstatus

end HoldCommands

/-- Settles O11: `Acquire(d)` below and at `HCMAX`. -/
theorem acqAddsOneHoldOrHalts : Obligations.AcqAddsOneHoldOrHalts := by
  intro d s hport hrunning hd
  refine ⟨exec_acq_of_room hport hrunning hd, fun hfull => ?_⟩
  rw [exec_acq hport hrunning hd, acquire_of_full hfull, raiseFatal_holdOvf_of_running _ hrunning]
  rfl

/-- Settles O12: `Release(d)` above and at zero. -/
theorem relTakesOneHoldOrCounts : Obligations.RelTakesOneHoldOrCounts := by
  intro d s hport hrunning hd
  rw [exec_rel hport hrunning hd]
  refine ⟨fun hheld => ?_, fun hnone => ?_⟩
  · rw [release_of_held hheld]
  · rw [release_of_none hnone, countEvent_eq]
    rfl

/-! ## The account of one counter (rule R138) -/

/-- The account of one depth: the holds on it and the double releases counted. -/
structure Tally where
  held : Nat
  doubles : BitVec 16

/-- The account after one more acquire or release (rules R131, R132); `Shows.deliver` says that the core follows it. -/
def Tally.after (a : Tally) : Instr → Tally
  | .acq _ => { a with held := a.held + 1 }
  | .rel _ => if a.held = 0 then { a with doubles := countEvent a.doubles } else { a with held := a.held - 1 }
  | _ => a

section Account

variable {a : Tally} {d : Byte}

theorem acq_ne_rel : Instr.acq d ≠ .rel d := Instr.noConfusion

theorem Tally.after_acq : a.after (.acq d) = { a with held := a.held + 1 } := rfl

theorem Tally.after_rel_of_none (h : a.held = 0) : a.after (.rel d) = { a with doubles := countEvent a.doubles } :=
  if_pos h

theorem Tally.after_rel_of_held (h : 0 < a.held) : a.after (.rel d) = { a with held := a.held - 1 } :=
  if_neg (by omega)

/-- No command takes the account further than the acquires still to come would. -/
theorem Tally.after_held_add_count_le {i : Instr} (hi : i = .acq d ∨ i = .rel d) (l : List Instr) :
    (a.after i).held + l.count (.acq d) ≤ a.held + (i :: l).count (.acq d) := by
  rcases hi with rfl | rfl
  · rw [Tally.after_acq, List.count_cons_self]
    simp only
    omega
  · rw [List.count_cons_of_ne acq_ne_rel.symm]
    rcases Nat.eq_zero_or_pos a.held with hnone | hheld
    · rw [Tally.after_rel_of_none hnone]
    · rw [Tally.after_rel_of_held hheld]
      simp only
      omega

/-- Where no initial part has more releases than there are holds for it to take, the account is the difference and nothing is
counted as a double release. -/
theorem Tally.foldl_after_of_balanced {l : List Instr} (hl : ∀ i ∈ l, i = .acq d ∨ i = .rel d)
    (hbalanced : ∀ k, (l.take k).count (.rel d) ≤ a.held + (l.take k).count (.acq d)) :
    l.foldl Tally.after a = { a with held := a.held + l.count (.acq d) - l.count (.rel d) } := by
  induction l generalizing a with
  | nil => rfl
  | cons i l ih =>
    obtain ⟨hi, hrest⟩ := List.forall_mem_cons.mp hl
    have hnext (k : Nat) := hbalanced (k + 1)
    rcases hi with rfl | rfl
    · simp only [List.take_succ_cons, List.count_cons_self, List.count_cons_of_ne acq_ne_rel] at hnext
      have hlater (k : Nat) : (l.take k).count (.rel d) ≤ a.held + 1 + (l.take k).count (.acq d) := by
        have := hnext k
        omega
      rw [List.foldl_cons, Tally.after_acq, ih hrest hlater, List.count_cons_self, List.count_cons_of_ne acq_ne_rel]
      exact congrArg (Tally.mk · a.doubles) (by simp only; omega)
    · simp only [List.take_succ_cons, List.count_cons_self, List.count_cons_of_ne acq_ne_rel.symm] at hnext
      have hheld : 0 < a.held := Nat.lt_of_lt_of_le Nat.one_pos (by simpa using hnext 0)
      have hlater (k : Nat) : (l.take k).count (.rel d) ≤ a.held - 1 + (l.take k).count (.acq d) := by
        have := hnext k
        omega
      rw [List.foldl_cons, Tally.after_rel_of_held hheld, ih hrest hlater, List.count_cons_self,
        List.count_cons_of_ne acq_ne_rel.symm]
      exact congrArg (Tally.mk · a.doubles) (by simp only; omega)

theorem Tally.foldl_after_acquires (n : Nat) :
    (List.replicate n (Instr.acq d)).foldl Tally.after a = { a with held := a.held + n } := by
  induction n generalizing a with
  | zero => rfl
  | succ n ih =>
    rw [List.replicate_succ, List.foldl_cons, ih]
    exact congrArg (Tally.mk · a.doubles) (by simp only [Tally.after_acq]; omega)

/-- Releases beyond the holds end at no hold and are counted up to saturation. -/
theorem Tally.foldl_after_releases {m : Nat} (h : a.held ≤ m) :
    ((List.replicate m (Instr.rel d)).foldl Tally.after a).held = 0 ∧
      ((List.replicate m (Instr.rel d)).foldl Tally.after a).doubles.toNat =
        min 65535 (a.doubles.toNat + (m - a.held)) := by
  induction m generalizing a with
  | zero =>
    have hcount := a.doubles.isLt
    exact ⟨Nat.le_zero.mp h, by simp only [List.replicate_zero, List.foldl_nil]; omega⟩
  | succ m ih =>
    rw [List.replicate_succ, List.foldl_cons]
    rcases Nat.eq_zero_or_pos a.held with hnone | hheld
    · rw [Tally.after_rel_of_none hnone]
      obtain ⟨hend, hcount⟩ := ih (a := { a with doubles := countEvent a.doubles }) (by simp [hnone])
      refine ⟨hend, hcount.trans ?_⟩
      simp only [toNat_countEvent]
      omega
    · rw [Tally.after_rel_of_held hheld]
      obtain ⟨hend, hcount⟩ := ih (a := { a with held := a.held - 1 }) (by simp only; omega)
      refine ⟨hend, hcount.trans ?_⟩
      simp only
      omega

end Account

/-! ## The core keeps the account -/

/-- A core with parameters `c` that runs and shows the account `a` at depth `d`. -/
structure Shows (c : Params) (d : Nat) (a : Tally) (s : State) : Prop where
  cfg : s.cfg = c
  running : s.halted = false
  counter : d < s.hc.length
  held : s.holds d = a.held
  doubles : s.dblRelCnt = a.doubles

section Delivery

variable {c : Params} {d : Byte} {a : Tally} {s : State} {p : Port}

/-- Below `HCMAX` the core follows the account over an `ACQ`. -/
theorem Shows.exec_acq (h : Shows c d.toNat a s) (hport : s.port = .bg ∨ s.port = .isr) (hd : d.toNat < c.ndepth)
    (hroom : a.held < c.hcMax) : ∃ t, exec (.acq d) s = .next t ∧ Shows c d.toNat (a.after (.acq d)) t := by
  obtain ⟨rfl, hrunning, hcounter, hheld, hdoubles⟩ := h
  refine ⟨_, exec_acq_of_room hport hrunning hd (hheld ▸ hroom), rfl, hrunning, ?_, ?_, hdoubles⟩
  · exact hcounter.trans_eq List.length_set.symm
  · exact (holds_set_same hcounter).trans (congrArg (· + 1) hheld)

/-- The core follows the account over a `REL`. -/
theorem Shows.exec_rel (h : Shows c d.toNat a s) (hport : s.port = .bg ∨ s.port = .isr) (hd : d.toNat < c.ndepth) :
    ∃ t, exec (.rel d) s = .next t ∧ Shows c d.toNat (a.after (.rel d)) t := by
  obtain ⟨rfl, hrunning, hcounter, hheld, hdoubles⟩ := h
  refine ⟨_, ArbiterCommands.exec_rel hport hrunning hd, ?_⟩
  rcases Nat.eq_zero_or_pos a.held with hnone | hpos
  · rw [Tally.after_rel_of_none hnone, release_of_none (hheld.trans hnone)]
    exact ⟨rfl, hrunning, hcounter, hheld, congrArg countEvent hdoubles⟩
  · rw [Tally.after_rel_of_held hpos, release_of_held (hheld ▸ hpos)]
    refine ⟨rfl, hrunning, ?_, ?_, hdoubles⟩
    · exact hcounter.trans_eq List.length_set.symm
    · exact (holds_set_same hcounter).trans (congrArg (· - 1) hheld)

/-- The core follows the account over the delivery of an acquire or release at either port. -/
theorem Shows.deliver {i : Instr} (h : Shows c d.toNat a s) (hp : p = .bg ∨ p = .isr) (hd : d.toNat < c.ndepth)
    (hi : i = .acq d ∨ i = .rel d) (hroom : i = .acq d → a.held < c.hcMax) :
    ∃ t, deliver (commandInput p i) s = .next t ∧ Shows c d.toNat (a.after i) t := by
  obtain ⟨hcfg, hrunning, hcounter, hheld, hdoubles⟩ := h
  have haccepted : Shows c d.toNat a (acceptAt p s) := ⟨hcfg, hrunning, hcounter, hheld, hdoubles⟩
  rw [commandInput, Scope.deliver_of_decode s (Encoding.decode_encode i)]
  rcases hi with rfl | rfl
  · exact haccepted.exec_acq hp hd (hroom rfl)
  · exact haccepted.exec_rel hp hd

theorem runSchedule_cons_of_next {x : Input} {xs : List Input} {t u : State} {r : List Response}
    (hx : deliver x s = .next t) (hxs : runSchedule xs t = some (u, r)) :
    ∃ r', runSchedule (x :: xs) s = some (u, r') := by
  simp only [runSchedule, hx, hxs]
  exact ⟨_, rfl⟩

/-- Over a schedule of `ACQ d` and `REL d` that cannot overflow the counter, the core ends at the account of its commands. -/
theorem Shows.runSchedule {ops : List (Port × Instr)} (h : Shows c d.toNat a s) (hd : d.toNat < c.ndepth)
    (hops : ∀ o ∈ ops, (o.1 = .bg ∨ o.1 = .isr) ∧ (o.2 = .acq d ∨ o.2 = .rel d))
    (hroom : a.held + (ops.map Prod.snd).count (.acq d) ≤ c.hcMax) :
    ∃ t r, runSchedule (ops.map (fun o => commandInput o.1 o.2)) s = some (t, r) ∧
      Shows c d.toNat ((ops.map Prod.snd).foldl Tally.after a) t := by
  induction ops generalizing a s with
  | nil => exact ⟨s, [], rfl, h⟩
  | cons o ops ih =>
    obtain ⟨p, i⟩ := o
    obtain ⟨⟨hp, hi⟩, hops⟩ := List.forall_mem_cons.mp hops
    rw [List.map_cons] at hroom
    obtain ⟨t, hdeliver, hshows⟩ := h.deliver hp hd hi fun hacq => by
      rw [hacq, List.count_cons_self] at hroom
      omega
    have hroom' : (a.after i).held + (ops.map Prod.snd).count (.acq d) ≤ c.hcMax :=
      (Tally.after_held_add_count_le hi _).trans hroom
    obtain ⟨u, r, hrun, hend⟩ := ih hshows hops hroom'
    obtain ⟨r', hrun'⟩ := runSchedule_cons_of_next hdeliver hrun
    exact ⟨u, r', hrun', hend⟩

end Delivery

/-- Settles O14: the core ends at the account of its commands, and the account is arithmetic. -/
theorem holdReleaseBalance : Obligations.HoldReleaseBalance := by
  intro d s ops hinv hrunning hd hzero hops hmax
  obtain ⟨-, ⟨hlength, -⟩, -⟩ := hinv
  have hshows : Shows s.cfg d.toNat ⟨0, s.dblRelCnt⟩ s := ⟨rfl, hrunning, hlength ▸ hd, hzero, rfl⟩
  obtain ⟨t, r, hrun, hend⟩ := hshows.runSchedule hd hops (by simpa using hmax)
  refine ⟨fun hbalanced => ⟨t, r, hrun, ?_⟩, fun n m hsplit hexcess => ⟨t, r, hrun, ?_⟩⟩
  · have haccount := Tally.foldl_after_of_balanced (a := ⟨0, s.dblRelCnt⟩) (l := ops.map Prod.snd) (d := d)
      (List.forall_mem_map.mpr fun o ho => (hops o ho).2) (by simpa using hbalanced)
    rw [haccount, Nat.zero_add] at hend
    exact ⟨hend.held, hend.doubles, hend.running⟩
  · rw [hsplit, List.foldl_append, Tally.foldl_after_acquires, Nat.zero_add] at hend
    obtain ⟨hheld, hdoubles⟩ := Tally.foldl_after_releases (a := ⟨n, s.dblRelCnt⟩) (d := d) hexcess.le
    exact ⟨hend.held.trans hheld, (congrArg BitVec.toNat hend.doubles).trans hdoubles⟩

end Sys2Proof.Proofs.ArbiterCommands
end

section
/-!
PROOFS for the steps of the ring buffer (`spec/41_ringbuffer.md` rules R140 to R148): the three deliveries, the pushes that
arm the drain unit or find no room, and the pop, each as one equation; and the buffer as a bounded queue over a schedule of
pushes and pops.
-/
namespace Sys2Proof.Proofs.RingBuffer

open Sys2Proof.Machine Sys2Proof.Proofs.Effects

/-! ## The drain unit when it arms (rule R191) -/

section Arming

variable {s : State}

theorem drainArm_of_room (hready : ReadyToArm s) (hroom : s.holds s.drDepth.toNat < s.cfg.hcMax) :
    drainArm s = { s with hc := s.hc.set s.drDepth.toNat (s.holds s.drDepth.toNat + 1), drActive := true } := by
  rw [drainArm, if_pos hready, ArbiterCommands.acquire_of_room hroom.ne]

/-- The overflow of the counter leaves the unit active (rule R213). -/
theorem drainArm_of_full (hready : ReadyToArm s) (hfull : s.holds s.drDepth.toNat = s.cfg.hcMax) :
    drainArm s =
      { s with fault := 1, faultInfo := BitVec.ofNat 32 (256 * s.drDepth.toNat + 1), drActive := true } := by
  have hrunning : s.halted = false := hready.1
  rw [drainArm, if_pos hready, ArbiterCommands.acquire_of_full hfull,
    ArbiterCommands.raiseFatal_holdOvf_of_running _ hrunning]

end Arming

/-! ## Deliveries (rules R143 to R145) -/

section Deliveries

variable {s : State}

/-- The end of an event whose body has written `t`. -/
theorem settle_withoutResponse (t : State) : settle { t with resp := none } = settled t := by
  simp [settle, settled, State.irq, State.halted]

/-- The end of an event is no change where nothing ends the rest state (rule R221). -/
theorem settled_eq_self (h : RestInv s) : settled s = { s with resp := none } := by
  rw [← settle_withoutResponse]
  exact settle_eq_self h.2

theorem takeEvent_syncw {t : State} (h : drainArm { s with wrSeen := s.wr, resp := none } = { t with resp := none }) :
    takeEvent .syncw s = .next (settled t) := by
  rw [takeEvent, syncW, h, settle_withoutResponse]

theorem takeEvent_syncw_of_idle (hidle : ¬ReadyToArm { s with wrSeen := s.wr }) :
    takeEvent .syncw s = .next (settled { s with wrSeen := s.wr }) :=
  takeEvent_syncw (if_neg hidle)

theorem takeEvent_syncr (s : State) : takeEvent .syncr s = .next (settled { s with rdSeen := s.rd }) :=
  congrArg Host.Outcome.next (settle_withoutResponse { s with rdSeen := s.rd })

theorem takeEvent_syncd (s : State) :
    takeEvent .syncd s =
      .next (settled { s with dropSeen := s.dropCnt, iflags := flagsAfterDrops s s.dropCnt }) := by
  rw [takeEvent, syncD_eq, ← settle_withoutResponse]
  rfl

end Deliveries

/-- Settles O22: each delivery copies its source, and only that of the drop count sets a flag. -/
theorem deliveriesCopyTheirSource : Obligations.DeliveriesCopyTheirSource :=
  fun s => ⟨fun hidle => takeEvent_syncw_of_idle (CommandFrame.not_readyToArm hidle), takeEvent_syncr s,
    takeEvent_syncd s⟩

/-- Settles O40: the delivery makes the unit ready to arm. -/
theorem deliveryArmsDrainUnit : Obligations.DeliveryArmsDrainUnit := by
  intro s hrunning hen hdisarmed hview
  have hready : ReadyToArm { s with wrSeen := s.wr, resp := none } := ⟨hrunning, hen, hdisarmed, hview⟩
  exact ⟨fun hroom => takeEvent_syncw (drainArm_of_room hready hroom),
    fun hfull => takeEvent_syncw (drainArm_of_full hready hfull)⟩

/-- Settles O23: in `SAME_DOMAIN` each view shows its source already, and the drain unit is not left ready to arm. -/
theorem deliveriesIdleInSameDomain : Obligations.DeliveriesIdleInSameDomain := by
  rintro e s ⟨-, -, hrest, ⟨-, -, -, -, hviews, -⟩, -, ⟨-, -, -, hdisarmed⟩, -⟩ hcdc he
  obtain ⟨hwr, hrd, hdrop⟩ := hviews hcdc
  rw [← settled_eq_self hrest]
  rcases he with rfl | rfl | rfl
  · have hidle : ¬ReadyToArm { s with wrSeen := s.wr } :=
      fun ⟨hrunning, hen, hact, hview⟩ => hview ((hdisarmed hen hact hrunning).trans hwr)
    rw [takeEvent_syncw_of_idle hidle]
    exact congrArg (fun i => Host.Outcome.next (settled { s with wrSeen := i })) hwr.symm
  · rw [takeEvent_syncr]
    exact congrArg (fun i => Host.Outcome.next (settled { s with rdSeen := i })) hrd.symm
  · rw [takeEvent_syncd, flagsAfterDrops, if_pos hdrop]
    exact congrArg (fun c => Host.Outcome.next (settled { s with dropSeen := c })) hdrop.symm

/-! ## PUSH (rule R141) -/

section Push

variable {w : Word} {s : State}

/-- In `SAME_DOMAIN` the consumer's view moves with `WR`, which may arm the drain unit (rules R143, R146). -/
theorem advanceWrite_of_drainArm {t : State} (hcdc : s.cfg.cdc = .sameDomain)
    (harm : drainArm { s with wr := nextSlot s.cfg s.wr, wrSeen := nextSlot s.cfg s.wr } = t) : advanceWrite s = t := by
  rw [advanceWrite, hcdc, ← harm]
  rfl

theorem countDrop_of_twoDomain (hcdc : s.cfg.cdc = .twoDomain) :
    countDrop s = { s with dropCnt := countEvent s.dropCnt } := by
  rw [countDrop, hcdc]

theorem countDrop_of_sameDomain (hcdc : s.cfg.cdc = .sameDomain) :
    countDrop s =
      { s with
        dropCnt := countEvent s.dropCnt
        dropSeen := countEvent s.dropCnt
        iflags := flagsAfterDrops s (countEvent s.dropCnt) } := by
  rw [countDrop, hcdc]
  exact syncD_eq _

/-- A drop writes its counter, the view of it and the flag alone (rules R141, R145). -/
theorem countDrop_frame (s : State) :
    ∃ dropCnt dropSeen iflags,
      countDrop s = { s with dropCnt := dropCnt, dropSeen := dropSeen, iflags := iflags } := by
  cases hcdc : s.cfg.cdc with
  | sameDomain => exact ⟨_, _, _, countDrop_of_sameDomain hcdc⟩
  | twoDomain => exact ⟨_, _, _, countDrop_of_twoDomain hcdc⟩

@[simp] theorem countDrop_port (s : State) : (countDrop s).port = s.port := by
  obtain ⟨_, _, _, h⟩ := countDrop_frame s
  rw [h]

/-- With the drain unit disabled nothing arms (rules R141, R146). -/
theorem advanceWrite_of_disabled (hdis : s.drEn = false) :
    ∃ view, ViewFollows s.cfg.cdc (nextSlot s.cfg s.wr) s.wrSeen view ∧
      advanceWrite s = { s with wr := nextSlot s.cfg s.wr, wrSeen := view } := by
  cases hcdc : s.cfg.cdc with
  | sameDomain =>
    exact ⟨_, .inl ⟨rfl, rfl⟩,
      CommandFrame.advanceWrite_of_sameDomain hcdc (CommandFrame.not_readyToArm (.inl hdis))⟩
  | twoDomain => exact ⟨_, .inr ⟨rfl, rfl⟩, CommandFrame.advanceWrite_of_twoDomain hcdc⟩

/-- At `PROD`, with no slot free, `PUSH` counts the drop, halted or not. -/
theorem exec_push_of_full (hport : s.port = .prod) (hfull : nextSlot s.cfg s.wr = s.rdSeen) :
    exec (.push w) s = .next (answered s (countDrop s) .full 0) := by
  have hlegal : staticLegal s.cfg s.port (.push w) = true := by rw [hport]; rfl
  have hnotIsr : s.port ≠ .isr := by simp [hport]
  show execPush w s = _
  rw [execPush, command_of_legal hlegal (.inr rfl), CommandFrame.wakeAtIsr_of_ne_isr hnotIsr, if_pos hfull, onNext_next,
    CommandFrame.settle_respond_of_ne_isr .full 0 hnotIsr (countDrop_port s)]

end Push

/-- Settles O17: the store after the write of the sample at `WR`, and the consumer's view that makes the unit ready to
arm. -/
theorem pushArmsDrainUnit : Obligations.PushArmsDrainUnit := by
  intro w s hport hfree hslot hcdc hrunning hen hdisarmed hview
  refine ⟨s.buf.write s.wr (sampleOf s.cfg w), ⟨?_, fun a ha => ?_⟩, fun hroom => ?_, fun hfull => ?_⟩
  · rw [Memory.read?_write, if_pos rfl]
    rfl
  · rw [Memory.read?_write, if_neg ha]
  · exact CommandFrame.exec_push_of_free hport hfree hslot
      (advanceWrite_of_drainArm hcdc (drainArm_of_room ⟨hrunning, hen, hdisarmed, hview⟩ hroom)) rfl
  · exact CommandFrame.exec_push_of_free hport hfree hslot
      (advanceWrite_of_drainArm hcdc (drainArm_of_full ⟨hrunning, hen, hdisarmed, hview⟩ hfull)) rfl

/-- Settles O18: what the counting of the drop is in each `CDC_MODE`. -/
theorem pushOnFullIsCounted : Obligations.PushOnFullIsCounted := by
  rintro w s c hport hfull rfl
  rw [exec_push_of_full hport hfull, ← ArbiterCommands.countEvent_eq]
  refine ⟨fun hcdc => ?_, fun hcdc => ?_⟩
  · rw [countDrop_of_twoDomain hcdc]
  · rw [countDrop_of_sameDomain hcdc]
    rfl

/-! ## POP (rule R142) -/

section Pop

variable {s : State}

theorem memRead_of_read? {i : Nat} {v : Word} (h : s.buf.read? i = some v) : memRead i s = v := by
  rw [memRead, h]

/-- At `CONS` of a core that runs, with the drain unit disabled and a sample in view, `POP` answers slot `RD`. -/
theorem exec_pop_of_sample {t : State} (hport : s.port = .cons) (hrunning : s.halted = false) (hdis : s.drEn = false)
    (hview : s.rd ≠ s.wrSeen) (hslot : s.rd < s.cfg.rbSize) (hadvance : advanceRead s = t) (hsame : t.port = s.port) :
    exec .pop s = .next (answered s t .ok (memRead s.rd s)) := by
  have hnotIsr : s.port ≠ .isr := by simp [hport]
  have hnotEn : ¬s.drEn = true := by simp [hdis]
  rw [CommandFrame.exec_pop_of_running hport hrunning, if_neg hnotEn, if_neg hview, Stops.atSlot_of_exists _ hslot,
    onNext_next, hadvance, CommandFrame.settle_respond_of_ne_isr .ok _ hnotIsr hsame]

theorem advanceRead_of_twoDomain (hcdc : s.cfg.cdc = .twoDomain) :
    advanceRead s = { s with rd := nextSlot s.cfg s.rd } := by
  rw [advanceRead, hcdc]

theorem advanceRead_of_sameDomain (hcdc : s.cfg.cdc = .sameDomain) :
    advanceRead s = { s with rd := nextSlot s.cfg s.rd, rdSeen := nextSlot s.cfg s.rd } := by
  rw [advanceRead, hcdc]
  rfl

end Pop

/-- Settles O19: the value read from slot `RD`, and what `advanceRead` makes of `RD` and its view. -/
theorem popReturnsOldest : Obligations.PopReturnsOldest := by
  intro s hport hrunning hdis hview hslot
  exact ⟨memRead s.rd s, fun u hu => memRead_of_read? hu,
    fun hcdc => exec_pop_of_sample hport hrunning hdis hview hslot (advanceRead_of_twoDomain hcdc) rfl,
    fun hcdc => exec_pop_of_sample hport hrunning hdis hview hslot (advanceRead_of_sameDomain hcdc) rfl⟩

/-! ## Schedules -/

section Schedules

variable {x : Input} {xs ys : List Input} {s t u : State} {rs rs' : List Response}

theorem runSchedule_cons {r : Response} (hx : deliver x s = .next t) (hr : t.resp = some r)
    (hxs : runSchedule xs t = some (u, rs)) : runSchedule (x :: xs) s = some (u, r :: rs) := by
  simp [runSchedule, hx, hr, hxs]

theorem runSchedule_singleton {r : Response} (hx : deliver x s = .next t) (hr : t.resp = some r) :
    runSchedule [x] s = some (t, [r]) :=
  runSchedule_cons hx hr rfl

theorem runSchedule_silent (hx : deliver x s = .next t) (hr : t.resp = none) : runSchedule [x] s = some (t, []) := by
  simp [runSchedule, hx, hr]

theorem runSchedule_append (hxs : runSchedule xs s = some (t, rs)) (hys : runSchedule ys t = some (u, rs')) :
    runSchedule (xs ++ ys) s = some (u, rs ++ rs') := by
  induction xs generalizing s rs with
  | nil =>
    cases hxs
    exact hys
  | cons x xs ih =>
    simp only [runSchedule] at hxs
    split at hxs
    case h_1 v hx =>
      obtain ⟨⟨w, ws⟩, hrest, hw⟩ := Option.map_eq_some_iff.mp hxs
      cases hw
      simp [runSchedule, hx, ih hrest]
    all_goals cases hxs

/-- The delivery of a command is its execution at its port (rules R37, R101). -/
theorem deliver_commandInput (p : Port) (i : Instr) (s : State) :
    deliver (commandInput p i) s = exec i { s with port := p, resp := none } :=
  Scope.deliver_of_decode s (Encoding.decode_encode i)

end Schedules

/-! ## The buffer as a bounded queue (rules R28, R147, R148) -/

/-- The buffer is full as the producer sees it where `WR` is `S - 1` steps ahead of its view of `RD` (rule R28). -/
theorem nextSlot_eq_iff {p : Params} {a b : Nat} (ha : a < p.rbSize) (hb : b < p.rbSize) :
    nextSlot p b = a ↔ ringDist p a b + 1 = p.rbSize := by
  rcases RingUnit.ringDist_cases ha hb with h1 | h1 <;> rcases RingUnit.nextSlot_cases hb with h2 | h2 <;> omega

theorem length_stored (s : State) : (stored s).length = ringDist s.cfg s.rd s.wr := by simp [stored]

/-- The delivery of an input keeps the invariant of the ring buffer. -/
theorem ringInv_of_deliver {x : Input} {s t : State} (h : deliver x s = .next t) (hlegal : s.cfg.Legal)
    (hring : RingInv s) : RingInv t :=
  deliver_relates (R := fun s t => s.cfg.Legal → RingInv s → RingInv t) h (fun _ _ _ _ _ _ => Iff.rfl)
    (fun _ _ hu => RingUnit.ringInv_of_effect hu) hlegal hring

theorem indicesAreSlots_of_ringInv {s : State} (h : RingInv s) : Stops.IndicesAreSlots s := by
  obtain ⟨⟨hwr, hrd, -⟩, -⟩ := h
  exact ⟨hwr, hrd⟩

theorem views_of_sameDomain {s : State} (h : RingInv s) (hcdc : s.cfg.cdc = .sameDomain) :
    s.wrSeen = s.wr ∧ s.rdSeen = s.rd := by
  obtain ⟨-, -, -, -, hviews, -⟩ := h
  obtain ⟨hwr, hrd, -⟩ := hviews hcdc
  exact ⟨hwr, hrd⟩

/-- A core with parameters `c` that runs, leaves its buffer to `POP`, and stores the samples `q` in it, oldest first. -/
structure Queues (c : Params) (q : List Word) (s : State) : Prop where
  cfg : s.cfg = c
  legal : c.Legal
  ring : RingInv s
  running : s.halted = false
  disabled : s.drEn = false
  samples : stored s = q

section Queue

variable {c : Params} {q : List Word} {s : State}

/-- The producer sees the buffer full exactly where `S - 1` samples are stored, if its view is not stale. -/
theorem Queues.full_iff (h : Queues c q s) (hview : s.rdSeen = s.rd) :
    nextSlot s.cfg s.wr = s.rdSeen ↔ q.length + 1 = c.rbSize := by
  obtain ⟨rfl, -, hring, -, -, rfl⟩ := h
  obtain ⟨hwr, hrd⟩ := indicesAreSlots_of_ringInv hring
  rw [hview, nextSlot_eq_iff hrd hwr, length_stored]

/-- A push that finds room appends its sample, and leaves the producer's view. -/
theorem Queues.push (h : Queues c q s) (hview : s.rdSeen = s.rd) (hroom : q.length + 1 < c.rbSize) (w : Word) :
    ∃ t, deliver (commandInput .prod (.push w)) s = .next t ∧ t.resp = some ⟨.prod, .ok, 0⟩ ∧
      Queues c (q ++ [sampleOf c w]) t ∧ t.rdSeen = t.rd := by
  have hfree : nextSlot s.cfg s.wr ≠ s.rdSeen := mt (h.full_iff hview).mp hroom.ne
  obtain ⟨rfl, hlegal, hring, hrunning, hdis, rfl⟩ := h
  obtain ⟨hslot, -⟩ := indicesAreSlots_of_ringInv hring
  obtain ⟨view, -, hadvance⟩ :=
    advanceWrite_of_disabled (s := memWrite s.wr (sampleOf s.cfg w) { s with port := .prod, resp := none }) hdis
  have hdeliver := (deliver_commandInput .prod (.push w) s).trans
    (CommandFrame.exec_push_of_free (s := { s with port := .prod, resp := none }) rfl hfree hslot hadvance rfl)
  exact ⟨_, hdeliver, rfl, ⟨rfl, hlegal, ringInv_of_deliver hdeliver hlegal hring, hrunning, hdis,
    (RingUnit.stored_push hring hfree :)⟩, hview⟩

/-- A push that finds `S - 1` samples is answered `FULL`, and appends nothing. -/
theorem Queues.push_full (h : Queues c q s) (hview : s.rdSeen = s.rd) (hfull : q.length + 1 = c.rbSize) (w : Word) :
    ∃ t, deliver (commandInput .prod (.push w)) s = .next t ∧ t.resp = some ⟨.prod, .full, 0⟩ ∧
      Queues c q t ∧ t.rdSeen = t.rd := by
  have hnext : nextSlot s.cfg s.wr = s.rdSeen := (h.full_iff hview).mpr hfull
  obtain ⟨rfl, hlegal, hring, hrunning, hdis, rfl⟩ := h
  obtain ⟨dropCnt, dropSeen, iflags, hcount⟩ := countDrop_frame { s with port := .prod, resp := none }
  have hdeliver := (deliver_commandInput .prod (.push w) s).trans
    (exec_push_of_full (s := { s with port := .prod, resp := none }) rfl hnext)
  rw [hcount] at hdeliver
  exact ⟨_, hdeliver, rfl, ⟨rfl, hlegal, ringInv_of_deliver hdeliver hlegal hring, hrunning, hdis, rfl⟩, hview⟩

/-- A pop takes the oldest sample, and leaves the consumer's view. -/
theorem Queues.pop {v : Word} (h : Queues c (v :: q) s) (hview : s.wrSeen = s.wr) :
    ∃ t, deliver (commandInput .cons .pop) s = .next t ∧ t.resp = some ⟨.cons, .ok, v⟩ ∧
      Queues c q t ∧ t.wrSeen = t.wr := by
  obtain ⟨rfl, hlegal, hring, hrunning, hdis, hsamples⟩ := h
  obtain ⟨-, hslot⟩ := indicesAreSlots_of_ringInv hring
  have hne : s.rd ≠ s.wrSeen := by
    intro heq
    have hlength := length_stored s
    rw [hsamples, ← hview, ← heq, Scope.ringDist_self] at hlength
    exact Nat.succ_ne_zero _ hlength
  obtain ⟨hhead, htail⟩ := List.cons.inj ((RingUnit.stored_take hring hne).symm.trans hsamples)
  obtain ⟨view, -, hadvance⟩ := advanceRead_eq { s with port := .cons, resp := none }
  have hdeliver := (deliver_commandInput .cons .pop s).trans
    (exec_pop_of_sample (s := { s with port := .cons, resp := none }) rfl hrunning hdis hne hslot hadvance rfl)
  exact ⟨_, hdeliver, congrArg (fun v => some (Response.mk .cons .ok v)) hhead,
    ⟨rfl, hlegal, ringInv_of_deliver hdeliver hlegal hring, hrunning, hdis, htail⟩, hview⟩

/-- Before the pops the consumer's view is made to show `WR`, where the pushes have not done so. -/
theorem Queues.deliverWrite (h : Queues c q s) :
    ∃ t, runSchedule (deliverWrite c) s = some (t, []) ∧ Queues c q t ∧ t.wrSeen = t.wr := by
  obtain ⟨rfl, hlegal, hring, hrunning, hdis, rfl⟩ := h
  unfold Machine.deliverWrite
  cases hcdc : s.cfg.cdc with
  | sameDomain =>
    obtain ⟨hwr, -⟩ := views_of_sameDomain hring hcdc
    exact ⟨s, rfl, ⟨rfl, hlegal, hring, hrunning, hdis, rfl⟩, hwr⟩
  | twoDomain =>
    have hdeliver : deliver (eventInput .syncw) s = _ :=
      takeEvent_syncw_of_idle (CommandFrame.not_readyToArm (.inl hdis))
    exact ⟨_, runSchedule_silent hdeliver rfl,
      ⟨rfl, hlegal, ringInv_of_deliver hdeliver hlegal hring, hrunning, hdis, rfl⟩, rfl⟩

/-- Before the pushes the producer's view is made to show `RD`, where the pops have not done so. -/
theorem Queues.deliverRead (h : Queues c q s) :
    ∃ t, runSchedule (deliverRead c) s = some (t, []) ∧ Queues c q t ∧ t.rdSeen = t.rd := by
  obtain ⟨rfl, hlegal, hring, hrunning, hdis, rfl⟩ := h
  unfold Machine.deliverRead
  cases hcdc : s.cfg.cdc with
  | sameDomain =>
    obtain ⟨-, hrd⟩ := views_of_sameDomain hring hcdc
    exact ⟨s, rfl, ⟨rfl, hlegal, hring, hrunning, hdis, rfl⟩, hrd⟩
  | twoDomain =>
    have hdeliver : deliver (eventInput .syncr) s = _ := takeEvent_syncr s
    exact ⟨_, runSchedule_silent hdeliver rfl,
      ⟨rfl, hlegal, ringInv_of_deliver hdeliver hlegal hring, hrunning, hdis, rfl⟩, rfl⟩

/-- Pushes that find room append their samples in order. -/
theorem Queues.pushes {ws : List Word} (h : Queues c q s) (hview : s.rdSeen = s.rd)
    (hroom : q.length + ws.length < c.rbSize) :
    ∃ t, runSchedule (pushes ws) s = some (t, ws.map (fun _ => ⟨.prod, .ok, 0⟩)) ∧
      Queues c (q ++ ws.map (sampleOf c)) t ∧ t.rdSeen = t.rd := by
  induction ws generalizing q s with
  | nil => exact ⟨s, rfl, by simpa using h, hview⟩
  | cons w ws ih =>
    rw [List.length_cons] at hroom
    obtain ⟨t, hdeliver, hresp, hqueues, hview⟩ := h.push hview (by omega) w
    have hroom' : (q ++ [sampleOf c w]).length + ws.length < c.rbSize := by
      rw [List.length_append, List.length_singleton]
      omega
    obtain ⟨u, hrun, hqueues, hview⟩ := ih hqueues hview hroom'
    exact ⟨u, runSchedule_cons hdeliver hresp hrun, by simpa using hqueues, hview⟩

/-- As many pops as there are samples in view take them in order. -/
theorem Queues.pops {vs : List Word} (h : Queues c (vs ++ q) s) (hview : s.wrSeen = s.wr) :
    ∃ t, runSchedule (pops vs.length) s = some (t, vs.map (fun v => ⟨.cons, .ok, v⟩)) ∧
      Queues c q t ∧ t.wrSeen = t.wr := by
  induction vs generalizing s with
  | nil => exact ⟨s, rfl, h, hview⟩
  | cons v vs ih =>
    obtain ⟨t, hdeliver, hresp, hqueues, hview⟩ := h.pop hview
    obtain ⟨u, hrun, hqueues, hview⟩ := ih hqueues hview
    exact ⟨u, runSchedule_cons hdeliver hresp hrun, hqueues, hview⟩

end Queue

theorem queues_of_coreInv {s : State} (h : CoreInv s) (hrunning : s.halted = false) (hdis : s.drEn = false) :
    Queues s.cfg (stored s) s := by
  obtain ⟨hlegal, -, -, hring, -⟩ := h
  exact ⟨rfl, hlegal, hring, hrunning, hdis, rfl⟩

/-- Settles O27: the pushes leave their samples in order, and the pops take them in that order. -/
theorem popsReturnPushesInOrder : Obligations.PopsReturnPushesInOrder := by
  intro s vs hinv hrunning hdis hempty hview hlength
  have hqueues : Queues s.cfg [] s := hempty ▸ queues_of_coreInv hinv hrunning hdis
  obtain ⟨-, -, ⟨hsize, -⟩, -⟩ := hqueues.legal
  obtain ⟨t, hpushes, hqueues, -⟩ := hqueues.pushes (ws := vs) hview (by rw [List.length_nil]; omega)
  obtain ⟨u, hdelivery, hqueues, hview⟩ := hqueues.deliverWrite
  rw [List.nil_append, ← List.append_nil (vs.map _)] at hqueues
  obtain ⟨v, hpops, hqueues, -⟩ := hqueues.pops hview
  rw [List.length_map, List.map_map] at hpops
  have hrun := runSchedule_append (runSchedule_append hpushes hdelivery) hpops
  rw [List.append_nil] at hrun
  exact ⟨v, hrun, hqueues.samples⟩

/-- Settles O26: the pushes fill the queue up to `S - 1` samples, and the pop makes room for one more. -/
theorem capacityIsOneLessThanSize : Obligations.CapacityIsOneLessThanSize := by
  intro s v vs a b c hinv hrunning hdis hempty hview hlength
  have hqueues : Queues s.cfg [] s := hempty ▸ queues_of_coreInv hinv hrunning hdis
  have hsize : vs.length + 2 = s.cfg.rbSize := by
    rw [List.length_cons] at hlength
    omega
  obtain ⟨s1, hpushes, hqueues, hview⟩ := hqueues.pushes (ws := v :: vs) hview (by simp [← hsize])
  rw [List.nil_append, List.map_cons] at hqueues
  obtain ⟨s2, hfull, hfullResp, hqueues, -⟩ := hqueues.push_full hview (by simp [← hsize]) a
  obtain ⟨s3, hdeliverWrite, hqueues, hview⟩ := hqueues.deliverWrite
  obtain ⟨s4, hpop, hpopResp, hqueues, -⟩ := hqueues.pop hview
  obtain ⟨s5, hdeliverRead, hqueues, hview⟩ := hqueues.deliverRead
  obtain ⟨s6, hpush, hpushResp, hqueues, hview⟩ := hqueues.push hview (by simp [← hsize]) b
  obtain ⟨s7, hfullAgain, hfullAgainResp, -⟩ := hqueues.push_full hview (by simp [← hsize]) c
  have hfill := runSchedule_append hpushes (runSchedule_singleton hfull hfullResp)
  have htake := runSchedule_append (runSchedule_append hfill hdeliverWrite) (runSchedule_singleton hpop hpopResp)
  have hrefill := runSchedule_append (runSchedule_append htake hdeliverRead)
    (runSchedule_cons hpush hpushResp (runSchedule_singleton hfullAgain hfullAgainResp))
  refine ⟨s7, hrefill.trans ?_⟩
  simp only [List.append_nil, List.append_assoc, List.cons_append, List.nil_append, sampleOf]

end Sys2Proof.Proofs.RingBuffer
end

section
/-!
PROOFS for the commands of the timer (`spec/42_timer.md` rules R161 to R163, R170, R171): the prescale search, `TCALC` and
`TSTART`, each as equations for a core that runs.
-/
namespace Sys2Proof.Proofs.TimerCommands

open Sys2Proof.Machine Sys2Proof.Proofs.Effects Sys2Proof.Proofs.Registers

/-! ## The prescale search (rules R162, R171) -/

section PrescaleSearch

variable {p : Params} {tmax period fuel k : Nat}

theorem prescaleLoop_le : prescaleLoop tmax period fuel k ≤ k + fuel := by
  induction fuel generalizing k with
  | zero => exact Nat.le_refl k
  | succ fuel ih =>
    rw [prescaleLoop]
    split_ifs
    · exact ih.trans (by omega)
    · omega

/-- The period does not fit under any shift that the loop has passed. -/
theorem lt_of_lt_prescaleLoop (hpassed : ∀ j, j < k → tmax < period / 2 ^ j) {j : Nat}
    (hj : j < prescaleLoop tmax period fuel k) : tmax < period / 2 ^ j := by
  induction fuel generalizing k with
  | zero => exact hpassed j hj
  | succ fuel ih =>
    rw [prescaleLoop] at hj
    split_ifs at hj with hlarge
    · refine ih (fun i hi => ?_) hj
      rcases Nat.lt_succ_iff_lt_or_eq.mp hi with hi | rfl
      · exact hpassed i hi
      · exact hlarge
    · exact hpassed j hj

/-- A period below `2^96` fits where the search ends: after 96 turns it is shifted out. -/
theorem prescaleSearch_fits_of_lt (hperiod : period < 2 ^ 96) :
    period / 2 ^ prescaleSearch p period ≤ p.tMax := by
  have hle : prescaleSearch p period ≤ 0 + 96 := prescaleLoop_le
  rcases Nat.lt_or_eq_of_le hle with hlt | heq
  · exact TimerUnit.prescaleLoop_fits hlt
  · rw [heq, Nat.div_eq_of_lt hperiod]
    exact Nat.zero_le _

/-- The search gives the least shift under which the period fits. -/
theorem prescaleSearch_eq_iff (hperiod : period < 2 ^ 96) :
    prescaleSearch p period = k ↔ period / 2 ^ k ≤ p.tMax ∧ ∀ j, j < k → p.tMax < period / 2 ^ j := by
  have hfits : period / 2 ^ prescaleSearch p period ≤ p.tMax := prescaleSearch_fits_of_lt hperiod
  have hpassed (j : Nat) (hj : j < prescaleSearch p period) : p.tMax < period / 2 ^ j :=
    lt_of_lt_prescaleLoop (fun i hi => absurd hi (Nat.not_lt_zero i)) hj
  constructor
  · rintro rfl
    exact ⟨hfits, hpassed⟩
  · rintro ⟨hk, hleast⟩
    rcases Nat.lt_trichotomy (prescaleSearch p period) k with hlt | heq | hgt
    · exact absurd (hleast _ hlt) (Nat.not_lt.mpr hfits)
    · exact heq
    · exact absurd (hpassed k hgt) (Nat.not_lt.mpr hk)

end PrescaleSearch

/-- Settles O31: the least shift fits, and no shift below it does. -/
theorem prescaleSearchIsLeast : Obligations.PrescaleSearchIsLeast := by
  intro p P k hP hk
  obtain ⟨hfits, hleast⟩ := (prescaleSearch_eq_iff hP).mp hk
  exact ⟨hfits, fun hne => hleast (k - 1) (Nat.sub_one_lt hne)⟩

/-- A product of three words has 96 bits, and its ticks no more (rule R161). -/
theorem ticksOf_lt (freq ratio millis : Word) : ticksOf freq ratio millis < 2 ^ 96 := by
  have hproduct : freq.toNat * ratio.toNat * millis.toNat < 2 ^ 32 * 2 ^ 32 * 2 ^ 32 :=
    Nat.mul_lt_mul'' (Nat.mul_lt_mul'' freq.isLt ratio.isLt) millis.isLt
  exact Nat.lt_of_le_of_lt (Nat.div_le_self _ _) hproduct

/-! ## Both commands -/

section Commands

variable {s : State}

/-- `TCALC` and `TSTART` have no operand, and are legal at `BG` and at `ISR` (rules R107, R108). -/
theorem staticLegal_of_timer {i : Instr} (hport : s.port = .bg ∨ s.port = .isr) (hi : i = .tcalc ∨ i = .tstart) :
    staticLegal s.cfg s.port i = true := by
  rcases hi with rfl | rfl <;> rcases hport with h | h <;> rw [h] <;> rfl

/-- The first fatal fault is recorded whole (rule R213). -/
theorem raiseFatal_of_running (code : FatalCode) (info : Nat) (hrunning : s.halted = false) :
    raiseFatal code info s = { s with fault := fatalBit code, faultInfo := faultWord code info } := by
  have hzero : s.fault = 0 := CoreState.halted_eq_false_iff.mp hrunning
  have hbit : 0 ||| fatalBit code = fatalBit code := BitVec.zero_or
  rw [raiseFatal, if_pos hzero, hzero, hbit]

/-- A command ends answered where its rule makes of the woken state what it would make of the state before the wake. -/
theorem settle_respond_of_woken {t u : State} {st : Status} {data : Word}
    (hu : u = { t with restCur := (wakeAtIsr s).restCur }) (hport : t.port = s.port) (hrest : t.restCur = s.restCur) :
    settle (respond st data u) = answered s t st data := by
  rw [hu]
  exact settle_respond st data hport hrest

/-! ## TCALC -/

/-- While the timer runs `TCALC` is refused (rule R161). -/
theorem exec_tcalc_of_run (hport : s.port = .bg ∨ s.port = .isr) (hrunning : s.halted = false) (hrun : s.run = true) :
    exec .tcalc s = .next (answered s s .illegal 0) := by
  show execTcalc s = _
  rw [execTcalc, command_of_legal (staticLegal_of_timer hport (.inl rfl)) (.inl hrunning), wakeAtIsr_run, if_pos hrun,
    onNext_next, settle_respond_self]

/-- `TCALC` on a stopped timer of a core that runs: the three fatal errors in the order of their checks, and then the
compare values and the prescale shift (rule R161). -/
theorem exec_tcalc_of_stopped {P F k : Nat} (hport : s.port = .bg ∨ s.port = .isr) (hrunning : s.halted = false)
    (hrun : s.run = false) (hP : ticksOf s.tfreq s.tratio s.tdur = P) (hF : ticksOf s.tfreq s.tratio s.tfloor = F)
    (hk : prescaleSearch s.cfg P = k) :
    exec .tcalc s = .next
      (if P = 0 then answered s (raiseFatal .cfgZeroPeriod infoTCALC s) .faulted 0
      else if k > s.cfg.prescMax then answered s (raiseFatal .cfgNoPrescaler infoTCALC s) .faulted 0
      else if F / 2 ^ k = 0 ∨ F / 2 ^ k ≥ P / 2 ^ k then
        answered s (raiseFatal .cfgBadCompare infoTCALC s) .faulted 0
      else
        answered s
          { s with tcomp0 := P / 2 ^ k, tcomp1 := P / 2 ^ k - F / 2 ^ k, tpresc := BitVec.ofNat 4 k } .ok 0) := by
  have hnotRun : ¬s.run = true := by simp [hrun]
  show execTcalc s = _
  rw [execTcalc, command_of_legal (staticLegal_of_timer hport (.inl rfl)) (.inl hrunning), wakeAtIsr_run,
    if_neg hnotRun]
  simp only [wakeAtIsr_tfreq, wakeAtIsr_tratio, wakeAtIsr_tdur, wakeAtIsr_tfloor, wakeAtIsr_cfg, hP, hF, hk]
  split_ifs <;> exact congrArg Host.Outcome.next (settle_respond_of_woken rfl rfl rfl)

/-! ## TSTART -/

/-- While the timer runs `TSTART` is refused (rule R163). -/
theorem exec_tstart_of_run (hport : s.port = .bg ∨ s.port = .isr) (hrunning : s.halted = false) (hrun : s.run = true) :
    exec .tstart s = .next (answered s s .illegal 0) := by
  show execTstart s = _
  rw [execTstart, command_of_legal (staticLegal_of_timer hport (.inr rfl)) (.inl hrunning), wakeAtIsr_run,
    if_pos hrun, onNext_next, settle_respond_self]

/-- `TSTART` on a stopped timer of a core that runs: the fatal error, or the start (rule R163). -/
theorem exec_tstart_of_stopped (hport : s.port = .bg ∨ s.port = .isr) (hrunning : s.halted = false)
    (hrun : s.run = false) :
    exec .tstart s = .next
      (if 1 ≤ s.tcomp1 ∧ s.tcomp1 < s.tcomp0 then
        answered s { s with tcnt := s.tcomp0, pdiv := 0, run := true } .ok 0
      else answered s (raiseFatal .cfgBadCompare infoTSTART s) .faulted 0) := by
  have hnotRun : ¬s.run = true := by simp [hrun]
  show execTstart s = _
  rw [execTstart, command_of_legal (staticLegal_of_timer hport (.inr rfl)) (.inl hrunning), wakeAtIsr_run,
    if_neg hnotRun, ite_not, wakeAtIsr_tcomp0, wakeAtIsr_tcomp1]
  split_ifs <;> exact congrArg Host.Outcome.next (settle_respond_of_woken rfl rfl rfl)

/-- With ordered compare values the timer starts. -/
theorem exec_tstart_of_ordered (hport : s.port = .bg ∨ s.port = .isr) (hrunning : s.halted = false)
    (hrun : s.run = false) (hcomp1 : 1 ≤ s.tcomp1) (hcomp : s.tcomp1 < s.tcomp0) :
    exec .tstart s = .next (answered s { s with tcnt := s.tcomp0, pdiv := 0, run := true } .ok 0) := by
  rw [exec_tstart_of_stopped hport hrunning hrun, if_pos ⟨hcomp1, hcomp⟩]

/-- `TCALC` answers `OK` only on a stopped timer of a core that runs, to a period and a floor that pass the checks of rule
R161. -/
theorem tcalc_ok {t : State} (hexec : exec .tcalc s = .next t) (hresp : t.resp = some ⟨s.port, .ok, 0⟩) :
    (s.port = .bg ∨ s.port = .isr) ∧ s.halted = false ∧ s.run = false ∧
      ∃ P F k, P < 2 ^ 96 ∧ prescaleSearch s.cfg P = k ∧ k ≤ s.cfg.prescMax ∧ F / 2 ^ k ≠ 0 ∧ F / 2 ^ k < P / 2 ^ k ∧
        t = answered s
          { s with tcomp0 := P / 2 ^ k, tcomp1 := P / 2 ^ k - F / 2 ^ k, tpresc := BitVec.ofNat 4 k } .ok 0 := by
  have hnot {C : Prop} {u : State} {st : Status} (hst : st ≠ .ok)
      (hrefused : exec .tcalc s = .next (answered s u st 0)) : C := by
    rw [hrefused] at hexec
    cases hexec
    simp [answered, hst] at hresp
  by_cases hillegal : staticLegal s.cfg s.port .tcalc = false
  · exact hnot (by decide) (CommandFrame.exec_of_illegal hillegal)
  have hlegal : staticLegal s.cfg s.port .tcalc = true := by simpa using hillegal
  by_cases hhalted : s.halted = true
  · exact hnot (by decide) (CommandFrame.exec_of_halted hlegal hhalted rfl)
  have hrunning : s.halted = false := by simpa using hhalted
  obtain ⟨-, hallows⟩ := staticLegal_iff.mp hlegal
  have hport : s.port = .bg ∨ s.port = .isr := port_of_portAllows hallows (by simp) (by simp)
  by_cases hrun' : s.run = true
  · exact hnot (by decide) (exec_tcalc_of_run hport hrunning hrun')
  have hrun : s.run = false := by simpa using hrun'
  have hanswer := exec_tcalc_of_stopped hport hrunning hrun rfl rfl rfl
  split_ifs at hanswer with hzero hpresc hfloor
  · exact hnot (by decide) hanswer
  · exact hnot (by decide) hanswer
  · exact hnot (by decide) hanswer
  · obtain ⟨hfloor, hlt⟩ := not_or.mp hfloor
    exact ⟨hport, hrunning, hrun, _, _, _, ticksOf_lt _ _ _, rfl, Nat.not_lt.mp hpresc, hfloor, Nat.not_le.mp hlt,
      Host.Outcome.next.inj (hexec.symm.trans hanswer)⟩

end Commands

/-- Settles O29: the least shift is the one that the search finds, and none of the three checks fails. -/
theorem tcalcDerivesCompareValues : Obligations.TcalcDerivesCompareValues := by
  intro s P F k hport hrunning hrun hP hF hne hfits hleast hpresc hfloor hlt
  have hk : prescaleSearch s.cfg P = k := (prescaleSearch_eq_iff (hP ▸ ticksOf_lt _ _ _)).mpr ⟨hfits, hleast⟩
  rw [exec_tcalc_of_stopped hport hrunning hrun hP.symm hF.symm hk, if_neg hne, if_neg (by omega), if_neg (by omega)]

/-- Settles O32: the checks that `TCALC` has made are those that `TSTART` makes. -/
theorem tcalcResultStarts : Obligations.TcalcResultStarts := by
  intro s t hexec hresp
  obtain ⟨hport, hrunning, hrun, P, F, k, hP, hk, hpresc, hfloor, hlt, rfl⟩ := tcalc_ok hexec hresp
  obtain ⟨hfits, -⟩ := (prescaleSearch_eq_iff hP).mp hk
  have hpos : 0 < F / 2 ^ k := Nat.pos_of_ne_zero hfloor
  have hcomp1 : 1 ≤ P / 2 ^ k - F / 2 ^ k := Nat.sub_pos_of_lt hlt
  have hcomp : P / 2 ^ k - F / 2 ^ k < P / 2 ^ k := Nat.sub_lt (hpos.trans hlt) hpos
  refine ⟨⟨hcomp1, hcomp, hfits⟩, fun _ => ?_, _, exec_tstart_of_ordered hport hrunning hrun hcomp1 hcomp, rfl, rfl⟩
  show (BitVec.ofNat 4 k).toNat ≤ s.cfg.prescMax
  rw [BitVec.toNat_ofNat]
  exact (Nat.mod_le _ _).trans hpresc

/-- Settles O30: the refusal of a running timer, and the three checks in their order. -/
theorem tcalcRejectsConfiguration : Obligations.TcalcRejectsConfiguration := by
  intro s P F k hport hrunning hP hF hfits hleast
  have hk : prescaleSearch s.cfg P = k := (prescaleSearch_eq_iff (hP ▸ ticksOf_lt _ _ _)).mpr ⟨hfits, hleast⟩
  have hstopped (hrun : s.run = false) := exec_tcalc_of_stopped hport hrunning hrun hP.symm hF.symm hk
  simp only [raiseFatal_of_running _ _ hrunning] at hstopped
  refine ⟨exec_tcalc_of_run hport hrunning, fun hrun hzero => ?_, fun hrun hne hpresc => ?_,
    fun hrun hne hpresc hfloor => ?_⟩
  · rw [hstopped hrun, if_pos hzero]
    rfl
  · rw [hstopped hrun, if_neg hne, if_pos hpresc]
    rfl
  · rw [hstopped hrun, if_neg hne, if_neg (Nat.not_lt.mpr hpresc), if_pos hfloor]
    rfl

/-- Settles O33. -/
theorem tstartLoadsCounter : Obligations.TstartLoadsCounter :=
  fun _ hport hrunning hrun hcomp1 hcomp => exec_tstart_of_ordered hport hrunning hrun hcomp1 hcomp

/-- Settles O34: the refusal of a running timer, and the check of the compare values. -/
theorem tstartRejects : Obligations.TstartRejects := by
  intro s hport hrunning
  refine ⟨exec_tstart_of_run hport hrunning, fun hrun hcomp => ?_⟩
  rw [exec_tstart_of_stopped hport hrunning hrun, if_neg (by omega), raiseFatal_of_running _ _ hrunning]
  rfl

end Sys2Proof.Proofs.TimerCommands
end

section
/-!
PROOFS for the ticks of the timer (`spec/42_timer.md` rules R164 to R167): the divider, the counter step and the two phases,
each as one equation; and what a halted core does on a tick and on the events of the transmitter (rule R214).
-/
namespace Sys2Proof.Proofs.TimerTicks

open Sys2Proof.Machine Sys2Proof.Proofs.ArbiterCommands Sys2Proof.Proofs.RingBuffer

/-! ## The halted core -/

section Halted

variable {s : State}

theorem oscTickBody_of_ignored (h : s.halted = true ∨ s.run = false) : oscTickBody s = s := if_pos h

theorem txblBody_of_halted (h : s.halted = true) : txblBody s = .next s := if_pos (.inl h)

theorem txcBody_of_halted (h : s.halted = true) : txcBody s = s := if_neg (by simp [h])

/-- A halted core is awake at the end of an event (rule R221). -/
theorem settle_of_halted (h : s.halted = true) : settle s = { s with restCur := 0 } := by simp [settle, h]

end Halted

/-- Settles O9: each of the three bodies begins with the halt. -/
theorem haltedCoreIgnoresTimerAndTransmitter : Obligations.HaltedCoreIgnoresTimerAndTransmitter := by
  intro e s hhalted he
  have hbegun : ({ s with resp := none } : State).halted = true := hhalted
  rw [← settle_of_halted hbegun]
  rcases he with rfl | rfl | rfl
  · rw [takeEvent, oscTickBody_of_ignored (.inl hbegun)]
  · rw [takeEvent, txblBody_of_halted hbegun, onNext_next]
  · rw [takeEvent, txcBody_of_halted hbegun]

/-! ## One tick -/

section Tick

variable {s : State}

/-- A tick whose rule writes `t` (rules R164, R221). -/
theorem takeEvent_oscTick {t : State} (h : oscTickBody { s with resp := none } = { t with resp := none }) :
    takeEvent .oscTick s = .next (settled t) := by
  rw [takeEvent, h, settle_withoutResponse]

theorem not_ignored (hrunning : s.halted = false) (hrun : s.run = true) : ¬(s.halted = true ∨ s.run = false) := by
  simp [hrunning, hrun]

/-- A tick that is not the `2^TPRESC`-th (rule R164). -/
theorem oscTickBody_of_divided (hrunning : s.halted = false) (hrun : s.run = true)
    (hdiv : (s.pdiv + 1) % 2 ^ s.tpresc.toNat ≠ 0) :
    oscTickBody s = { s with pdiv := (s.pdiv + 1) % 2 ^ s.tpresc.toNat } := by
  rw [oscTickBody, if_neg (not_ignored hrunning hrun)]
  exact if_neg hdiv

/-- The `2^TPRESC`-th tick is a counter step (rule R164). -/
theorem oscTickBody_of_counted (hrunning : s.halted = false) (hrun : s.run = true)
    (hdiv : (s.pdiv + 1) % 2 ^ s.tpresc.toNat = 0) : oscTickBody s = counterStep { s with pdiv := 0 } := by
  rw [oscTickBody, if_neg (not_ignored hrunning hrun), hdiv]
  exact if_pos rfl

theorem counterStep_of_reload (hcnt : s.tcnt ≤ 1) : counterStep s = phaseA { s with tcnt := s.tcomp0 } := if_pos hcnt

theorem counterStep_of_match (hcnt : 1 < s.tcnt) (hmatch : s.tcnt - 1 = s.tcomp1) (hstate : s.tstate = .exciting) :
    counterStep s = phaseB { s with tcnt := s.tcomp1 } := by
  rw [counterStep, if_neg (Nat.not_le.mpr hcnt), hmatch]
  exact if_pos ⟨rfl, hstate⟩

theorem counterStep_of_no_match (hcnt : 1 < s.tcnt) (hno : ¬(s.tcnt - 1 = s.tcomp1 ∧ s.tstate = .exciting)) :
    counterStep s = { s with tcnt := s.tcnt - 1 } := by
  rw [counterStep, if_neg (Nat.not_le.mpr hcnt)]
  exact if_neg hno

/-- `Acquire` at `HCMAX` of a core that runs raises the first fatal fault (rules R131, R213). -/
theorem acquire_of_full_of_running {d : Nat} (hrunning : s.halted = false) (hfull : s.holds d = s.cfg.hcMax) :
    acquire d s = { s with fault := 1, faultInfo := BitVec.ofNat 32 (256 * d + 1) } := by
  rw [acquire_of_full hfull, raiseFatal_holdOvf_of_running d hrunning]

/-- Phase A, by the hold counters and the fault record that its `Acquire` leaves (rule R166). -/
theorem phaseA_of_acquire {hc : List Nat} {fault : BitVec 2} {info : Word}
    (h : acquire s.thdepth.toNat s = { s with hc := hc, fault := fault, faultInfo := info }) :
    phaseA s =
      { s with
        hc := hc, fault := fault, faultInfo := info
        tstate := .exciting
        out := s.out ++ [.actStart]
        pidxA := s.pidxA + 1
        iflags := s.iflags ||| 1 } := by
  rw [phaseA, h]
  rfl

/-- Phase B, by the hold counters, the double-release counter and the flags that its release leaves where the mask asks for
one (rule R167). -/
theorem phaseB_of_release {hc : List Nat} {count : BitVec 16} {flags : BitVec 4}
    (h : (if s.trelmask.getLsbD (behaviourSlot s) then release s.thdepth.toNat s else s) =
      { s with hc := hc, dblRelCnt := count, iflags := flags }) :
    phaseB s =
      { s with
        hc := hc, dblRelCnt := count
        tslot := BitVec.ofNat 5 (behaviourSlot s)
        pol := if s.polen then !s.pol else s.pol
        tstate := .idle
        out := s.out ++ [.actStop (BitVec.ofNat 5 (behaviourSlot s)) (if s.polen then !s.pol else s.pol)]
        pidxB := s.pidxB + 1
        iflags := flags ||| 2 } := by
  rw [phaseB, h]
  rfl

end Tick

/-- Settles O35: the divider, and the counter step that is no phase. -/
theorem tickCountsDown : Obligations.TickCountsDown := by
  intro s hrunning
  refine ⟨fun hrun => ?_, fun hrun hdiv => ?_, fun hrun hdiv hcnt hno => ?_⟩
  · exact takeEvent_oscTick (oscTickBody_of_ignored (.inr hrun))
  · exact takeEvent_oscTick (oscTickBody_of_divided (s := { s with resp := none }) hrunning hrun hdiv)
  · apply takeEvent_oscTick
    rw [oscTickBody_of_counted (s := { s with resp := none }) hrunning hrun hdiv]
    exact counterStep_of_no_match (s := { s with resp := none, pdiv := 0 }) hcnt hno

section Phases

variable {s : State}

/-- The tick that reloads the counter is phase A (rules R165, R166). -/
theorem takeEvent_oscTick_of_reload {hc : List Nat} {fault : BitVec 2} {info : Word} (hrunning : s.halted = false)
    (hrun : s.run = true) (hdiv : (s.pdiv + 1) % 2 ^ s.tpresc.toNat = 0) (hcnt : s.tcnt ≤ 1)
    (hacq : acquire s.thdepth.toNat { s with pdiv := 0, tcnt := s.tcomp0, resp := none } =
      { s with pdiv := 0, tcnt := s.tcomp0, resp := none, hc := hc, fault := fault, faultInfo := info }) :
    takeEvent .oscTick s =
      .next (settled
        { s with
          pdiv := 0
          tcnt := s.tcomp0
          hc := hc, fault := fault, faultInfo := info
          tstate := .exciting
          out := s.out ++ [.actStart]
          pidxA := s.pidxA + 1
          iflags := s.iflags ||| 1 }) := by
  apply takeEvent_oscTick
  rw [oscTickBody_of_counted (s := { s with resp := none }) hrunning hrun hdiv,
    counterStep_of_reload (s := { s with resp := none, pdiv := 0 }) hcnt]
  exact phaseA_of_acquire hacq

/-- The tick that arrives at `TCOMP1` while Exciting is phase B (rules R165, R167). -/
theorem takeEvent_oscTick_of_match {hc : List Nat} {count : BitVec 16} {flags : BitVec 4} (hrunning : s.halted = false)
    (hrun : s.run = true) (hdiv : (s.pdiv + 1) % 2 ^ s.tpresc.toNat = 0) (hcnt : 1 < s.tcnt)
    (hmatch : s.tcnt - 1 = s.tcomp1) (hstate : s.tstate = .exciting)
    (hrel : (if s.trelmask.getLsbD (behaviourSlot s) then
        release s.thdepth.toNat { s with pdiv := 0, tcnt := s.tcomp1, resp := none }
        else { s with pdiv := 0, tcnt := s.tcomp1, resp := none }) =
      { s with pdiv := 0, tcnt := s.tcomp1, resp := none, hc := hc, dblRelCnt := count, iflags := flags }) :
    takeEvent .oscTick s =
      .next (settled
        { s with
          pdiv := 0
          tcnt := s.tcomp1
          hc := hc, dblRelCnt := count
          tslot := BitVec.ofNat 5 (behaviourSlot s)
          pol := if s.polen then !s.pol else s.pol
          tstate := .idle
          out := s.out ++ [.actStop (BitVec.ofNat 5 (behaviourSlot s)) (if s.polen then !s.pol else s.pol)]
          pidxB := s.pidxB + 1
          iflags := flags ||| 2 }) := by
  apply takeEvent_oscTick
  rw [oscTickBody_of_counted (s := { s with resp := none }) hrunning hrun hdiv,
    counterStep_of_match (s := { s with resp := none, pdiv := 0 }) hcnt hmatch hstate]
  exact phaseB_of_release hrel

end Phases

/-- Settles O36: `Acquire` below and at `HCMAX`. -/
theorem reloadIsPhaseA : Obligations.ReloadIsPhaseA := by
  intro s hrunning hrun hdiv hcnt
  refine ⟨fun hroom => ?_, fun hfull => ?_⟩
  · exact takeEvent_oscTick_of_reload hrunning hrun hdiv hcnt (acquire_of_room hroom.ne)
  · exact takeEvent_oscTick_of_reload hrunning hrun hdiv hcnt (acquire_of_full_of_running hrunning hfull)

/-- Settles O37: the mask leaves the hold, or `Release` takes it or counts a double release. -/
theorem matchIsPhaseB : Obligations.MatchIsPhaseB := by
  intro s n pol hrunning hrun hdiv hcnt hmatch hstate hn hpol
  subst hn hpol
  refine ⟨fun hmask => ?_, fun hmask hheld => ?_, fun hmask hnone => ?_⟩
  · exact takeEvent_oscTick_of_match hrunning hrun hdiv hcnt hmatch hstate (if_neg (by simp [behaviourSlot, hmask]))
  · exact takeEvent_oscTick_of_match hrunning hrun hdiv hcnt hmatch hstate
      ((if_pos hmask).trans (release_of_held hheld))
  · rw [takeEvent_oscTick_of_match hrunning hrun hdiv hcnt hmatch hstate
      ((if_pos hmask).trans (release_of_none hnone)), countEvent_eq]
    rfl

end Sys2Proof.Proofs.TimerTicks
end

section
/-!
PROOFS for the schedule of the two phases under ticks alone (`spec/42_timer.md` rule R168): where the timer stands in its
period after any number of ticks from a start.
-/
namespace Sys2Proof.Proofs.TimerSchedule

open Sys2Proof.Machine Sys2Proof.Proofs.ArbiterCommands Sys2Proof.Proofs.TimerTicks

/-! ## The place in the period -/

/-- What rule R168 asks of a start: a timer that runs with ordered compare values, a behaviour slot and a hold counter that
exist, every mask bit 1, and room for the hold. -/
structure Start (s : State) : Prop where
  run : s.run = true
  comp1 : 1 ≤ s.tcomp1
  comp : s.tcomp1 < s.tcomp0
  slots : 1 ≤ s.tmodn.toNat ∧ s.tmodn.toNat ≤ 32
  mask : s.trelmask = 0xFFFFFFFF
  counter : s.thdepth.toNat < s.hc.length
  room : s.holds s.thdepth.toNat < s.cfg.hcMax

/-- The state of the timer `r` counter steps into period `q`, where period 0 is the one before the first phase A. -/
def stateAt (s : State) (q r : Nat) : TimerState :=
  if 1 ≤ q ∧ r + s.tcomp1 < s.tcomp0 then .exciting else .idle

/-- The timer's contribution to its hold counter (rule R168). -/
def contribution : TimerState → Nat
  | .idle => 0
  | .exciting => 1

/-- What the timer of a core that runs shows in `t` where ticks from the start `s` have taken it through `q` periods, `r`
counter steps of the next and `p` ticks towards one more; `Start.reached_ticks` says that they do. -/
structure Reached (s : State) (q r p : Nat) (t : State) : Prop where
  cfg : t.cfg = s.cfg
  config : TimerUnit.lockedConfig t = TimerUnit.lockedConfig s
  running : t.halted = false
  counter : t.thdepth.toNat < t.hc.length
  tcnt : t.tcnt + r = s.tcomp0
  pdiv : t.pdiv = p
  tstate : t.tstate = stateAt s q r
  pidxA : t.pidxA = BitVec.ofNat 32 q
  pidxB : t.pidxB = BitVec.ofNat 32 (q - contribution t.tstate)
  holds : t.holds t.thdepth.toNat = s.holds s.thdepth.toNat + contribution t.tstate

/-! ## One tick more -/

section Tick

variable {s t : State} {q r p : Nat}

theorem stateAt_eq_exciting_iff : stateAt s q r = .exciting ↔ 1 ≤ q ∧ r + s.tcomp1 < s.tcomp0 := by
  unfold stateAt
  split_ifs with h <;> simp [h]

theorem stateAt_eq_idle_iff : stateAt s q r = .idle ↔ ¬(1 ≤ q ∧ r + s.tcomp1 < s.tcomp0) := by
  unfold stateAt
  split_ifs with h <;> simp [h]

/-- The elements that decide what a tick does are those of the start. -/
theorem Reached.fixed (h : Reached s q r p t) :
    t.run = s.run ∧ t.tcomp0 = s.tcomp0 ∧ t.tcomp1 = s.tcomp1 ∧ t.tpresc = s.tpresc ∧ t.tmodn = s.tmodn ∧
      t.trelmask = s.trelmask ∧ t.thdepth = s.thdepth := by
  have hconfig := h.config
  simp only [TimerUnit.lockedConfig, Prod.mk.injEq] at hconfig
  obtain ⟨hrun, ⟨-, -, -, -, hmask⟩, ⟨hcomp0, hcomp1⟩, ⟨hpresc, hmodn, hdepth⟩, -⟩ := hconfig
  exact ⟨hrun, hcomp0, hcomp1, hpresc, hmodn, hmask, hdepth⟩

/-- A tick that is not the `2^TPRESC`-th moves the divider alone (rule R164). -/
theorem Reached.tick_divided (hs : Start s) (h : Reached s q r p t) (hdiv : (p + 1) % 2 ^ s.tpresc.toNat ≠ 0) :
    ∃ u, deliver (eventInput .oscTick) t = .next (settled u) ∧
      Reached s q r ((p + 1) % 2 ^ s.tpresc.toNat) (settled u) := by
  obtain ⟨hrun, -, -, hpresc, -⟩ := h.fixed
  obtain ⟨-, hdivided, -⟩ := tickCountsDown t h.running
  rw [← h.pdiv, ← hpresc] at hdiv ⊢
  exact ⟨_, hdivided (hrun.trans hs.run) hdiv,
    h.cfg, h.config, h.running, h.counter, h.tcnt, rfl, h.tstate, h.pidxA, h.pidxB, h.holds⟩

/-- The counter step at the end of a period is phase A, from Idle, and begins the next period (rules R165, R166). -/
theorem Reached.tick_reload (hs : Start s) (h : Reached s q r p t) (hdiv : (p + 1) % 2 ^ s.tpresc.toNat = 0)
    (hend : r + 1 = s.tcomp0) :
    ∃ u, deliver (eventInput .oscTick) t = .next (settled u) ∧ Reached s (q + 1) 0 0 (settled u) := by
  obtain ⟨hrun, hcomp0, -, hpresc, -⟩ := h.fixed
  have hcomp1 := hs.comp1
  have hidle : t.tstate = .idle := h.tstate.trans (stateAt_eq_idle_iff.mpr (by omega))
  have hnext : stateAt s (q + 1) 0 = .exciting := stateAt_eq_exciting_iff.mpr ⟨by omega, by simpa using hs.comp⟩
  have hnone : t.holds t.thdepth.toNat = s.holds s.thdepth.toNat := h.holds.trans (by rw [hidle]; rfl)
  have hroom : t.holds t.thdepth.toNat < t.cfg.hcMax := by
    rw [hnone, h.cfg]
    exact hs.room
  have hB : t.pidxB = BitVec.ofNat 32 q := h.pidxB.trans (by rw [hidle]; rfl)
  have hcnt := h.tcnt
  rw [← h.pdiv, ← hpresc] at hdiv
  obtain ⟨hphaseA, -⟩ := reloadIsPhaseA t h.running (hrun.trans hs.run) hdiv (by omega)
  refine ⟨_, hphaseA hroom, h.cfg, h.config, h.running, ?_, hcomp0, rfl, hnext.symm, ?_, hB, ?_⟩
  · exact h.counter.trans_eq List.length_set.symm
  · exact (congrArg (· + 1) h.pidxA).trans (BitVec.ofNat_add q 1).symm
  · exact (holds_set_same h.counter).trans (congrArg (· + 1) hnone)

/-- Every behaviour slot has its mask bit 1 at a start. -/
theorem Reached.getLsbD_trelmask (hs : Start s) (h : Reached s q r p t) :
    t.trelmask.getLsbD (t.pidxB.toNat % t.tmodn.toNat) = true := by
  obtain ⟨-, -, -, -, hmodn, hmask, -⟩ := h.fixed
  obtain ⟨hmin, hmax⟩ := hs.slots
  have hslot : t.pidxB.toNat % t.tmodn.toNat < 32 :=
    Nat.lt_of_lt_of_le (Nat.mod_lt _ (hmodn ▸ hmin)) (hmodn ▸ hmax)
  rw [hmask, hs.mask]
  exact (BitVec.getLsbD_allOnes (v := 32)).trans (decide_eq_true hslot)

/-- The counter step that arrives at `TCOMP1` while Exciting is phase B, and ends the timer's hold (rules R165, R167). -/
theorem Reached.tick_match (hs : Start s) (h : Reached s q r p t) (hdiv : (p + 1) % 2 ^ s.tpresc.toNat = 0)
    (hmatch : t.tcnt - 1 = t.tcomp1) (hexciting : t.tstate = .exciting) :
    ∃ u, deliver (eventInput .oscTick) t = .next (settled u) ∧ Reached s q (r + 1) 0 (settled u) := by
  obtain ⟨hrun, -, hcomp1, hpresc, -⟩ := h.fixed
  have hpos := hs.comp1
  obtain ⟨hq, hr⟩ := stateAt_eq_exciting_iff.mp (h.tstate.symm.trans hexciting)
  have hcnt := h.tcnt
  have hnext : stateAt s q (r + 1) = .idle := stateAt_eq_idle_iff.mpr (by omega)
  have hheld : t.holds t.thdepth.toNat = s.holds s.thdepth.toNat + 1 := h.holds.trans (by rw [hexciting]; rfl)
  have hB : t.pidxB + 1 = BitVec.ofNat 32 q := by
    rw [h.pidxB, hexciting, contribution]
    exact (BitVec.ofNat_add (q - 1) 1).symm.trans (congrArg (BitVec.ofNat 32) (Nat.sub_add_cancel hq))
  rw [← h.pdiv, ← hpresc] at hdiv
  obtain ⟨-, hphaseB, -⟩ := matchIsPhaseB t _ _ h.running (hrun.trans hs.run) hdiv (by omega) hmatch hexciting rfl rfl
  refine ⟨_, hphaseB (h.getLsbD_trelmask hs) (hheld ▸ Nat.succ_pos _), h.cfg, h.config, h.running, ?_, ?_, rfl,
    hnext.symm, h.pidxA, hB, ?_⟩
  · exact h.counter.trans_eq List.length_set.symm
  · show t.tcomp1 + (r + 1) = s.tcomp0
    omega
  · exact (holds_set_same h.counter).trans (congrArg (· - 1) hheld)

/-- Any other counter step moves the counter alone (rule R165). -/
theorem Reached.tick_no_match (hs : Start s) (h : Reached s q r p t) (hdiv : (p + 1) % 2 ^ s.tpresc.toNat = 0)
    (hr : r + 1 < s.tcomp0) (hno : ¬(t.tcnt - 1 = t.tcomp1 ∧ t.tstate = .exciting)) :
    ∃ u, deliver (eventInput .oscTick) t = .next (settled u) ∧ Reached s q (r + 1) 0 (settled u) := by
  obtain ⟨hrun, -, hcomp1, hpresc, -⟩ := h.fixed
  have hcnt := h.tcnt
  have hsame : t.tstate = stateAt s q (r + 1) := by
    rw [h.tstate, stateAt_eq_exciting_iff] at hno
    rw [h.tstate]
    exact if_congr (by omega) rfl rfl
  rw [← h.pdiv, ← hpresc] at hdiv
  obtain ⟨-, -, hcounted⟩ := tickCountsDown t h.running
  refine ⟨_, hcounted (hrun.trans hs.run) hdiv (by omega) hno, h.cfg, h.config, h.running, h.counter, ?_, rfl, hsame,
    h.pidxA, h.pidxB, h.holds⟩
  show t.tcnt - 1 + (r + 1) = s.tcomp0
  omega

/-- A counter step before the end of a period goes one step on in it. -/
theorem Reached.tick_counted (hs : Start s) (h : Reached s q r p t) (hdiv : (p + 1) % 2 ^ s.tpresc.toNat = 0)
    (hr : r + 1 < s.tcomp0) :
    ∃ u, deliver (eventInput .oscTick) t = .next (settled u) ∧ Reached s q (r + 1) 0 (settled u) := by
  by_cases hmatch : t.tcnt - 1 = t.tcomp1 ∧ t.tstate = .exciting
  · obtain ⟨hcnt, hexciting⟩ := hmatch
    exact h.tick_match hs hdiv hcnt hexciting
  · exact h.tick_no_match hs hdiv hr hmatch

end Tick

/-! ## Any number of ticks -/

section Ticks

variable {s : State}

/-- A start is the beginning of period 0. -/
theorem reached_start (hrunning : s.halted = false) (hidle : s.tstate = .idle) (hcnt : s.tcnt = s.tcomp0)
    (hpdiv : s.pdiv = 0) (hA : s.pidxA = 0) (hB : s.pidxB = 0)
    (hcounter : s.thdepth.toNat < s.hc.length) : Reached s 0 0 0 s :=
  ⟨rfl, rfl, hrunning, hcounter, hcnt, hpdiv, hidle, hA, by rw [hB, Nat.zero_sub]; rfl, by rw [hidle]; rfl⟩

/-- After `n` ticks the timer stands `n / 2^TPRESC` counter steps after the start. -/
theorem Start.reached_ticks (hs : Start s) (hstart : Reached s 0 0 0 s) (n : Nat) :
    ∃ t q r, runSchedule (ticks n) s = some (t, []) ∧ Reached s q r (n % 2 ^ s.tpresc.toNat) t ∧ r < s.tcomp0 ∧
      n / 2 ^ s.tpresc.toNat = r + s.tcomp0 * q := by
  have hcomp := hs.comp
  induction n with
  | zero => exact ⟨s, 0, 0, rfl, by rwa [Nat.zero_mod], by omega, by simp⟩
  | succ n ih =>
    obtain ⟨t, q, r, hrun, hreached, hr, hsteps⟩ := ih
    have happend {u : State} (htick : deliver (eventInput .oscTick) t = .next (settled u)) :
        runSchedule (ticks (n + 1)) s = some (settled u, []) := by
      rw [ticks, List.replicate_succ']
      exact RingBuffer.runSchedule_append hrun (RingBuffer.runSchedule_silent htick rfl)
    have hmod : (n % 2 ^ s.tpresc.toNat + 1) % 2 ^ s.tpresc.toNat = (n + 1) % 2 ^ s.tpresc.toNat := Nat.mod_add_mod ..
    rw [← hmod]
    by_cases hdiv : (n % 2 ^ s.tpresc.toNat + 1) % 2 ^ s.tpresc.toNat = 0
    · rw [Nat.succ_div_of_dvd (Nat.dvd_of_mod_eq_zero (hmod.symm.trans hdiv)), hsteps, hdiv]
      rcases Nat.lt_or_eq_of_le (Nat.succ_le_of_lt hr) with hr' | hend
      · obtain ⟨u, htick, hreached⟩ := hreached.tick_counted hs hdiv hr'
        exact ⟨_, q, r + 1, happend htick, hreached, hr', by omega⟩
      · obtain ⟨u, htick, hreached⟩ := hreached.tick_reload hs hdiv hend
        exact ⟨_, q + 1, 0, happend htick, hreached, by omega, by rw [Nat.mul_succ]; omega⟩
    · rw [Nat.succ_div_of_not_dvd (fun hdvd => hdiv (hmod.trans (Nat.mod_eq_zero_of_dvd hdvd))), hsteps]
      obtain ⟨u, htick, hreached⟩ := hreached.tick_divided hs hdiv
      exact ⟨_, q, r, happend htick, hreached, hr, rfl⟩

end Ticks

/-! ## The closed forms of rule R168 -/

section ClosedForms

variable {s : State} {q r : Nat}

theorem stateAt_exciting_iff_closed (hr : r < s.tcomp0) :
    stateAt s q r = .exciting ↔
      s.tcomp0 ≤ r + s.tcomp0 * q ∧ (r + s.tcomp0 * q) % s.tcomp0 < s.tcomp0 - s.tcomp1 := by
  have hperiods : s.tcomp0 ≤ r + s.tcomp0 * q ↔ 1 ≤ q := by
    rcases Nat.eq_zero_or_pos q with rfl | hq
    · simp [hr]
    · exact iff_of_true ((Nat.le_mul_of_pos_right _ hq).trans (Nat.le_add_left _ _)) hq
  rw [stateAt_eq_exciting_iff, hperiods, Nat.add_mul_mod_self_left, Nat.mod_eq_of_lt hr, Nat.lt_sub_iff_add_lt]

/-- The phase-B events: one for each period before the current one but period 0, and one for the current one once the timer
is Idle again. -/
theorem sub_contribution_eq (hcomp : s.tcomp1 < s.tcomp0) (hr : r < s.tcomp0) :
    q - contribution (stateAt s q r) = (r + s.tcomp0 * q + s.tcomp1) / s.tcomp0 - 1 := by
  have hsplit : (r + s.tcomp0 * q + s.tcomp1) / s.tcomp0 = (r + s.tcomp1) / s.tcomp0 + q := by
    rw [Nat.add_right_comm, Nat.add_mul_div_left _ _ (by omega)]
  rw [hsplit]
  rcases Nat.lt_or_ge (r + s.tcomp1) s.tcomp0 with hbefore | hafter
  · rw [Nat.div_eq_of_lt hbefore, Nat.zero_add]
    rcases Nat.eq_zero_or_pos q with rfl | hq
    · exact Nat.zero_sub _
    · rw [stateAt_eq_exciting_iff.mpr ⟨hq, hbefore⟩, contribution]
  · have hone : (r + s.tcomp1) / s.tcomp0 = 1 := Nat.div_eq_of_lt_le (by omega) (by omega)
    rw [hone, stateAt_eq_idle_iff.mpr (by omega), contribution]
    omega

end ClosedForms

theorem start_of_coreInv {s : State} (h : CoreInv s) (hrun : s.run = true) (hmask : s.trelmask = 0xFFFFFFFF)
    (hroom : s.holds s.thdepth.toNat < s.cfg.hcMax) : Start s := by
  obtain ⟨-, ⟨hlength, -⟩, -, -, ⟨-, ⟨hmin, hmax, -⟩, hdepth, -, hruns, -⟩, -⟩ := h
  obtain ⟨hcomp1, hcomp, -⟩ := hruns hrun
  exact ⟨hrun, hcomp1, hcomp, ⟨hmin, hmax⟩, hmask, hlength ▸ hdepth, hroom⟩

/-- Settles O38: the ticks take the timer to a place in its period, and the closed forms are those of the place. -/
theorem phasesFollowTheSchedule : Obligations.PhasesFollowTheSchedule := by
  intro s n j hinv hrunning hrun hidle hcnt hpdiv hA hB hmask hroom hj
  have hs : Start s := start_of_coreInv hinv hrun hmask hroom
  obtain ⟨t, q, r, hticks, hreached, hr, hsteps⟩ :=
    hs.reached_ticks (reached_start hrunning hidle hcnt hpdiv hA hB hs.counter) n
  obtain rfl : j = r + s.tcomp0 * q := hj.trans hsteps
  have hperiods : (r + s.tcomp0 * q) / s.tcomp0 = q := by
    rw [Nat.add_mul_div_left _ _ (Nat.zero_lt_of_lt hs.comp), Nat.div_eq_of_lt hr, Nat.zero_add]
  refine ⟨t, hticks, ?_, ?_, ?_, ?_⟩
  · rw [hperiods]
    exact hreached.pidxA
  · rw [← sub_contribution_eq hs.comp hr, ← hreached.tstate]
    exact hreached.pidxB
  · rw [hreached.tstate]
    exact stateAt_exciting_iff_closed hr
  · obtain ⟨-, -, -, -, -, -, hdepth⟩ := hreached.fixed
    rw [← hdepth, hreached.holds, hdepth]
    cases t.tstate <;> rfl

end Sys2Proof.Proofs.TimerSchedule
end

section
/-!
PROOFS for the drain unit (`spec/43_drain.md` rules R190 to R197): the invariant of its states, the hold that follows
`DR_ACTIVE`, its two events and `wake_ext`, each as one equation, and the register write that arms it.
-/
namespace Sys2Proof.Proofs.DrainUnit

open Sys2Proof.Machine Sys2Proof.Proofs.Effects Sys2Proof.Proofs.Registers Sys2Proof.Proofs.RingBuffer

/-! ## The invariant -/

/-- Settles O57: every effect keeps the invariant of the drain unit. -/
theorem stepKeepsDrainInvariant : Obligations.StepKeepsDrainInvariant := by
  intro s t hlegal hdrain hstep
  have hkept : t.cfg.Legal ∧ DrainInv t :=
    step_keeps (P := fun s => s.cfg.Legal ∧ DrainInv s) hstep ⟨hlegal, hdrain⟩ (fun _ _ _ _ _ => Iff.rfl)
      (fun x b u hu hb => ⟨hu.cfg ▸ hb.1, CoreState.drainInv_of_effect hu hb.1 hb.2⟩)
  exact hkept.2

/-! ## The hold that follows `DR_ACTIVE` (rule R194) -/

/-- The unit arms between `s` and `t`: `DR_ACTIVE` rises with one acquire at `DRDEPTH` on a core that runs (rule R191). -/
def ArmsUnit (s t : State) : Prop :=
  s.halted = false ∧ s.drActive = false ∧ t.drActive = true ∧
    Acquires s s.drDepth.toNat t.hc t.fault t.faultInfo

/-- The unit disarms between `s` and `t`: `DR_ACTIVE` falls with one release at `DRDEPTH` where nothing is in view (rule
R192). -/
def DisarmsUnit (s t : State) : Prop :=
  s.rd = s.wrSeen ∧ s.drActive = true ∧ t.drActive = false ∧
    Releases s s.drDepth.toNat t.hc t.dblRelCnt t.iflags

/-- `DrainArm` arms the unit or leaves `DR_ACTIVE` (rule R191). -/
theorem armsUnit_of_arms {s : State} {hc : List Nat} {fault : BitVec 2} {info : Word} {active : Bool}
    (h : Arms s hc fault info active) :
    ArmsUnit s { s with hc := hc, fault := fault, faultInfo := info, drActive := active } ∨ active = s.drActive := by
  rcases h with ⟨⟨hrunning, -, hidle, -⟩, hacq, hactive⟩ | ⟨-, -, -, -, hactive⟩
  · exact .inl ⟨hrunning, hidle, hactive, hacq⟩
  · exact .inr hactive

/-- All that an effect does to `DR_ACTIVE`: the unit arms, or a `txbl` disarms it, or `DR_ACTIVE` stays. -/
theorem drActive_of_effect {x : Input} {b u : State} (hu : Effect x b u) (hx : x ≠ .event .reset) :
    ArmsUnit b u ∨ (x = .event .txbl ∧ DisarmsUnit b u) ∨ u.drActive = b.drActive := by
  cases hu with
  | pushSame _ _ _ _ harms | wrregDrctrl _ _ harms | syncw harms =>
    rcases armsUnit_of_arms harms with harms | hstays
    · exact .inl harms
    · exact .inr (.inr hstays)
  | disarm hactive _ hview hrel => exact .inr (.inl ⟨rfl, hview, hactive, rfl, hrel⟩)
  | @wrreg _ _ _ _ reg _ _ _ _ _ _ hne =>
    cases reg with
    | drctrl => exact absurd rfl hne
    | _ => exact .inr (.inr rfl)
  | reset => exact absurd rfl hx
  | _ => exact .inr (.inr rfl)

/-- `DRDEPTH` is locked while the unit is active (rules R194, R202). -/
theorem drDepth_of_effect {x : Input} {b u : State} (hu : Effect x b u) (hx : x ≠ .event .reset)
    (hactive : b.drActive = true) : u.drDepth = b.drDepth := by
  cases hu with
  | @wrreg _ _ _ _ reg _ _ _ _ _ hwrite hne =>
    cases reg with
    | drctrl => exact absurd rfl hne
    | drdepth =>
      have hidle : b.drActive = false := disarmed_of_writeLegal hwrite rfl
      exact Bool.noConfusion (hidle.symm.trans hactive)
    | _ => rfl
  | reset => exact absurd rfl hx
  | _ => rfl

/-- The acquire of a unit that arms takes a hold or raises the first fatal fault (rules R131, R213). -/
theorem ArmsUnit.hold_or_fault {s t : State} (h : ArmsUnit s t) :
    (s.holds s.drDepth.toNat ≠ s.cfg.hcMax ∧ t.hc = s.hc.set s.drDepth.toNat (s.holds s.drDepth.toNat + 1)) ∨
      (s.holds s.drDepth.toNat = s.cfg.hcMax ∧ t.hc = s.hc ∧ s.halted = false ∧ t.fault = 1) := by
  obtain ⟨hrunning, -, -, hacq⟩ := h
  rcases hacq with ⟨hroom, hset, -⟩ | ⟨hfull, hsame, hfault, -⟩
  · exact .inl ⟨hroom, hset⟩
  · have hzero : s.fault = 0 := CoreState.halted_eq_false_iff.mp hrunning
    exact .inr ⟨hfull, hsame, hrunning, by rw [hfault, hzero]; rfl⟩

/-- The release of a unit that disarms gives a hold back, or is a double release (rule R132). -/
theorem DisarmsUnit.hold_back {s t : State} (h : DisarmsUnit s t) :
    (0 < s.holds s.drDepth.toNat ∧ t.hc = s.hc.set s.drDepth.toNat (s.holds s.drDepth.toNat - 1)) ∨
      (s.holds s.drDepth.toNat = 0 ∧ t.hc = s.hc) := by
  obtain ⟨-, -, -, hrel⟩ := h
  exact hrel.imp (fun ⟨hheld, hset, _⟩ => ⟨hheld, hset⟩) (fun ⟨hnone, hsame, _⟩ => ⟨hnone, hsame⟩)

/-- Settles O43: a change of `DR_ACTIVE` is an arming or a disarming, and `DRDEPTH` is locked between the two. -/
theorem drainHoldFollowsActive : Obligations.DrainHoldFollowsActive := by
  intro x s t hdeliver hx
  have hactive := deliver_relates
    (R := fun s t => ArmsUnit s t ∨ (x = .event .txbl ∧ DisarmsUnit s t) ∨ t.drActive = s.drActive)
    hdeliver (fun _ _ _ _ _ _ => Iff.rfl) (fun _ _ hu => drActive_of_effect hu hx)
  refine ⟨fun hidle hrises => ?_, fun hwas hfalls => ?_, ?_⟩
  · rcases hactive with harms | ⟨-, -, hwas, -⟩ | hsame
    · exact harms.hold_or_fault
    · exact Bool.noConfusion (hidle.symm.trans hwas)
    · exact Bool.noConfusion (hidle.symm.trans (hsame.symm.trans hrises))
  · rcases hactive with ⟨-, hidle, -⟩ | ⟨htxbl, hdisarms⟩ | hsame
    · exact Bool.noConfusion (hidle.symm.trans hwas)
    · obtain ⟨hempty, -⟩ := id hdisarms
      exact ⟨htxbl, hempty, hdisarms.hold_back⟩
    · exact Bool.noConfusion (hfalls.symm.trans (hsame.trans hwas))
  · exact deliver_relates (R := fun s t => s.drActive = true → t.drDepth = s.drDepth) hdeliver
      (fun _ _ _ _ _ _ => Iff.rfl) (fun _ _ hu => drDepth_of_effect hu hx)

/-! ## `txbl` (rule R192) -/

section Txbl

variable {s : State}

theorem takeEvent_txbl {t : State} (h : txblBody { s with resp := none } = .next { t with resp := none }) :
    takeEvent .txbl s = .next (settled t) := by
  rw [takeEvent, h, onNext_next, settle_withoutResponse]

theorem txblBody_of_ignored (h : s.halted = true ∨ s.drActive = false ∨ s.drWait = true) : txblBody s = .next s :=
  if_pos h

/-- Whether the unit takes a `txbl`: it is active and does not wait, on a core that runs (rule R192). -/
abbrev TakesTxbl (s : State) : Prop := s.halted = false ∧ s.drActive = true ∧ s.drWait = false

theorem TakesTxbl.not_ignored (h : TakesTxbl s) : ¬(s.halted = true ∨ s.drActive = false ∨ s.drWait = true) := by
  obtain ⟨hrunning, hactive, hnowait⟩ := h
  simp [hrunning, hactive, hnowait]

/-- The advance of `RD`, with its view in `SAME_DOMAIN` alone (rules R146, R192). -/
theorem advanceRead_eq_ite (s : State) :
    advanceRead s =
      { s with
        rd := nextSlot s.cfg s.rd
        rdSeen := if s.cfg.cdc = .sameDomain then nextSlot s.cfg s.rd else s.rdSeen } := by
  cases hcdc : s.cfg.cdc with
  | sameDomain => exact advanceRead_of_sameDomain hcdc
  | twoDomain => exact advanceRead_of_twoDomain hcdc

/-- With a sample in view, the sample of slot `RD` is popped and transmitted, and the wait begins. -/
theorem txblBody_of_sample (htakes : TakesTxbl s) (hview : s.rd ≠ s.wrSeen) (hslot : s.rd < s.cfg.rbSize) :
    txblBody s =
      .next
        { s with
          rd := nextSlot s.cfg s.rd
          rdSeen := if s.cfg.cdc = .sameDomain then nextSlot s.cfg s.rd else s.rdSeen
          txd := memRead s.rd s
          out := s.out ++ [.tx (memRead s.rd s)]
          drWait := true } := by
  rw [txblBody, if_neg htakes.not_ignored, if_pos hview, Stops.atSlot_of_exists _ hslot, advanceRead_eq_ite]

/-- With nothing in view, the hold is given back and the unit disarms. -/
theorem txblBody_of_empty (htakes : TakesTxbl s) (hempty : s.rd = s.wrSeen) :
    txblBody s = .next { release s.drDepth.toNat s with drActive := false } := by
  rw [txblBody, if_neg htakes.not_ignored, if_neg (not_not.mpr hempty)]

end Txbl

/-- Settles O41: the branches of `txblBody`, the last of them by what `Release` finds. -/
theorem transmitterEmptyDrainsOne : Obligations.TransmitterEmptyDrainsOne := by
  refine fun s => ⟨fun hignored => takeEvent_txbl (txblBody_of_ignored hignored),
    fun hrunning hactive hnowait hview hslot => ⟨memRead s.rd s, fun u hu => memRead_of_read? hu, ?_⟩,
    fun hrunning hactive hnowait hempty hheld => takeEvent_txbl ?_,
    fun hrunning hactive hnowait hempty hnone => takeEvent_txbl ?_⟩
  · exact takeEvent_txbl (txblBody_of_sample (s := { s with resp := none }) ⟨hrunning, hactive, hnowait⟩ hview hslot)
  · rw [txblBody_of_empty (s := { s with resp := none }) ⟨hrunning, hactive, hnowait⟩ hempty,
      ArbiterCommands.release_of_held (s := { s with resp := none }) hheld]
    rfl
  · rw [txblBody_of_empty (s := { s with resp := none }) ⟨hrunning, hactive, hnowait⟩ hempty,
      ArbiterCommands.release_of_none (s := { s with resp := none }) hnone, ArbiterCommands.countEvent_eq]
    rfl

/-! ## `txc` and `wake_ext` (rules R193, R222) -/

section Txc

variable {s : State}

theorem takeEvent_txc {t : State} (h : txcBody { s with resp := none } = { t with resp := none }) :
    takeEvent .txc s = .next (settled t) := by
  rw [takeEvent, h, settle_withoutResponse]

theorem txcBody_of_waiting (hrunning : s.halted = false) (hwait : s.drWait = true) :
    txcBody s = { s with drWait := false } := if_pos ⟨hrunning, hwait⟩

theorem txcBody_of_ignored (h : s.halted = true ∨ s.drWait = false) : txcBody s = s := by
  rcases h with h | h
  · exact TimerTicks.txcBody_of_halted h
  · exact if_neg (by simp [h])

end Txc

/-- After `wake_ext` there is no rest state for `Settle()` to end (rules R221, R222, R236). -/
theorem takeEvent_wakeExt (s : State) : takeEvent .wakeExt s = .next { s with restCur := 0, resp := none } :=
  congrArg Host.Outcome.next (settle_eq_self fun hrest => absurd rfl hrest)

/-- Settles O42: the two branches of `txcBody`, and the wake. -/
theorem transmitCompleteAndWake : Obligations.TransmitCompleteAndWake :=
  fun s => ⟨fun hrunning hwait => takeEvent_txc (txcBody_of_waiting (s := { s with resp := none }) hrunning hwait),
    fun hignored => takeEvent_txc (txcBody_of_ignored hignored), takeEvent_wakeExt s⟩

/-! ## The register write that arms (rules R191, R201, R203) -/

section EnablingWrite

variable {s t : State}

/-- A legal `WRREG` writes its register and is answered by whether the core then still runs (rules R106, R201). -/
theorem exec_wrreg_of_legal {r : Byte} {w : Word} {reg : Reg} (hport : s.port = .bg ∨ s.port = .isr)
    (hrunning : s.halted = false) (hreg : regOf s.cfg.ndepth r = some reg) (hlegal : writeLegal reg w s = true)
    (hwrite : writeReg reg w s = t) :
    exec (.wrreg r w) s = .next (answered s t (if t.halted then .faulted else .ok) 0) := by
  subst hwrite
  have hlegal' : writeLegal reg w (wakeAtIsr s) = true := hlegal
  have hwoken : writeReg reg w (wakeAtIsr s) = { writeReg reg w s with restCur := (wakeAtIsr s).restCur } :=
    writeReg_restCur_comm reg w s _
  show execWrreg r w s = _
  rw [execWrreg, command_of_legal (staticLegal_wrreg hport hreg) (.inl hrunning)]
  simp only [wakeAtIsr_cfg, hreg, hlegal', Bool.true_eq_false, if_false, onNext_next,
    ArbiterCommands.respondOkOrFaulted_status, hwoken]
  exact congrArg Host.Outcome.next (settle_respond _ 0 (writeReg_port reg w s) (writeReg_restCur reg w s))

/-- `WRREG DRCTRL, 1` at a disarmed unit enables it and comes to `DrainArm` (rules R201 to R203). -/
theorem exec_wrreg_enable (hport : s.port = .bg ∨ s.port = .isr) (hrunning : s.halted = false)
    (hdisarmed : s.drActive = false) (harm : drainArm { s with drEn := true } = t) :
    exec (.wrreg 0x40 1) s = .next (answered s t (if t.halted then .faulted else .ok) 0) := by
  have hopen : lockOpen .act s = true := by simp [lockOpen, hdisarmed]
  exact exec_wrreg_of_legal (reg := .drctrl) hport hrunning rfl
    (writeLegal_iff.mpr ⟨by decide, (by decide : (1 : Word) &&& ~~~1 = 0), rfl, hopen⟩) harm

end EnablingWrite

/-- Settles O46: the enabled unit is ready to arm, and the core halts just where its hold overflows the counter. -/
theorem wrregEnableArmsDrainUnit : Obligations.WrregEnableArmsDrainUnit := by
  intro s hport hrunning hdisarmed hview
  have hready : ReadyToArm { s with drEn := true } := ⟨hrunning, rfl, hdisarmed, hview⟩
  refine ⟨fun hroom => ?_, fun hfull => ?_⟩
  · have hstatus : (if s.halted then Status.faulted else .ok) = .ok := by rw [hrunning]; rfl
    rw [exec_wrreg_enable hport hrunning hdisarmed (drainArm_of_room hready hroom)]
    exact congrArg (fun st => Host.Outcome.next (answered s _ st 0)) hstatus
  · rw [exec_wrreg_enable hport hrunning hdisarmed (drainArm_of_full hready hfull)]
    rfl

end Sys2Proof.Proofs.DrainUnit
end

section
/-!
PROOFS for the halt (`spec/60_exceptions.md` rule R214): the frame of a halted core over every input that it still takes.
-/
namespace Sys2Proof.Proofs.Halt

open Sys2Proof.Machine Sys2Proof.Proofs.CommandFrame Sys2Proof.Proofs.Effects Sys2Proof.Proofs.Registers

section HaltedCore

variable {s t : State}

/-- A legal `RDREG` writes nothing but its answer (rule R200). -/
theorem exec_rdreg_of_legal {r : Byte} (hlegal : staticLegal s.cfg s.port (.rdreg r) = true) :
    ∃ st data, exec (.rdreg r) s = .next (answered s s st data) := by
  obtain ⟨hoperand, hallows⟩ := staticLegal_iff.mp hlegal
  have hport : s.port = .bg ∨ s.port = .isr := port_of_portAllows hallows (by simp) (by simp)
  obtain ⟨reg, hreg⟩ : ∃ reg, regOf s.cfg.ndepth r = some reg := Option.isSome_iff_exists.mp hoperand
  by_cases hwo : accessOf reg = .wo
  · exact ⟨_, _, exec_rdreg_of_wo hport hreg hwo⟩
  · exact ⟨_, _, exec_rdreg hport hreg hwo⟩

/-- In a halted core no command but a `PUSH` at `PROD` does more than answer: it is not legal, it is turned away by the halt,
or it is an `RDREG` (rules R109, R214). -/
theorem exec_only_answers_of_halted {i : Instr} (hhalted : s.halted = true)
    (hpush : s.port = .prod → ∀ w, i ≠ .push w) : ∃ st data, exec i s = .next (answered s s st data) := by
  by_cases hlegal : staticLegal s.cfg s.port i = true
  · cases i with
    | rdreg r => exact exec_rdreg_of_legal hlegal
    | push w =>
      have hnotProd : s.port ≠ .prod := fun hprod => hpush hprod w rfl
      rw [staticLegal_of_wrongPort (portAllows_push_eq_false hnotProd)] at hlegal
      exact absurd hlegal Bool.false_ne_true
    | _ => exact ⟨_, _, exec_of_halted hlegal hhalted rfl⟩
  · exact ⟨_, _, exec_of_illegal (eq_false_of_ne_true hlegal)⟩

/-- The same for a packet, whether or not it holds a command (rule R108). -/
theorem deliver_command_of_halted {p : Port} {q : Packet} (hhalted : s.halted = true)
    (hpush : p = .prod → ∀ w, decode q ≠ .ok (.push w)) (h : deliver (.command p q) s = .next t) :
    ∃ resp, t = { s with restCur := 0, port := p, resp := resp } := by
  have hanswers : ∃ st data,
      deliver (.command p q) s = .next (answered { s with port := p } { s with port := p } st data) := by
    cases hdecode : decode q with
    | error e => exact ⟨_, _, deliver_of_undecoded hdecode⟩
    | ok i =>
      rw [Scope.deliver_of_decode s hdecode]
      exact exec_only_answers_of_halted (s := acceptAt p s) hhalted
        fun hprod w hi => hpush hprod w (hdecode.trans (congrArg _ hi))
  obtain ⟨st, data, heq⟩ := hanswers
  rw [heq, answered_of_halted (t := { s with port := p }) st data hhalted] at h
  cases h
  exact ⟨_, rfl⟩

/-- In a halted core `wake_ext` and the events of the timer and the transmitter leave everything but the rest state and the
wires of the response (rules R214, R222). -/
theorem takeEvent_of_halted {e : Event} (hhalted : s.halted = true)
    (he : e = .oscTick ∨ e = .txbl ∨ e = .txc ∨ e = .wakeExt) :
    takeEvent e s = .next { s with restCur := 0, resp := none } := by
  rcases he with he | he | he | rfl
  · exact TimerTicks.haltedCoreIgnoresTimerAndTransmitter e s hhalted (.inl he)
  · exact TimerTicks.haltedCoreIgnoresTimerAndTransmitter e s hhalted (.inr (.inl he))
  · exact TimerTicks.haltedCoreIgnoresTimerAndTransmitter e s hhalted (.inr (.inr he))
  · exact DrainUnit.takeEvent_wakeExt s

end HaltedCore

/-- Settles O10: a command does no more than answer, and an event that is not exempt does no more than wake. -/
theorem haltedCoreIsFrozen : Obligations.HaltedCoreIsFrozen := by
  intro x s t hhalted hdeliver hreset hsyncw hsyncr hsyncd hpush
  cases x with
  | command p q =>
    have hnotPush : p = .prod → ∀ w, decode q ≠ .ok (.push w) := fun hprod w => hpush q w (hprod ▸ rfl)
    obtain ⟨resp, rfl⟩ := deliver_command_of_halted hhalted hnotPush hdeliver
    rfl
  | event e =>
    cases e with
    | reset => exact absurd rfl hreset
    | syncw => exact absurd rfl hsyncw
    | syncr => exact absurd rfl hsyncr
    | syncd => exact absurd rfl hsyncd
    | oscTick | txbl | txc | wakeExt =>
      rw [deliver, takeEvent_of_halted hhalted (by simp)] at hdeliver
      cases hdeliver
      rfl

end Sys2Proof.Proofs.Halt
end

section
/-!
PROOFS for reset (`spec/70_reset_and_hazards.md` rules R250, R251): what the event `reset` leaves, in any state.
-/
namespace Sys2Proof.Proofs.Reset

open Sys2Proof.Machine Sys2Proof.Proofs.ArbiterCommands

/-- Reset leaves its own values as they are: no rest state is entered that `Settle()` could end (rule R221). -/
theorem takeEvent_reset (s : State) : takeEvent .reset s = .next (resetBody s) := by
  have hsettle : settle (resetBody s) = resetBody s := settle_eq_self fun hrest => absurd rfl hrest
  calc takeEvent .reset s
      _ = .next (settle (resetBody s)) := rfl
      _ = .next (resetBody s) := by rw [hsettle]

/-- After reset no depth has a hold; a depth that does not exist has none either. -/
@[simp] theorem resetBody_holds (s : State) (d : Nat) : (resetBody s).holds d = 0 := by
  simp [State.holds, resetBody, State.resetWith]

/-- After reset the `irq` line is low: no flag is set (rule R36). -/
@[simp] theorem resetBody_irq (s : State) : (resetBody s).irq = false := by
  simp [State.irq, resetBody, State.resetWith]

/-- After reset the core runs: no fault is recorded (rule R35). -/
@[simp] theorem resetBody_halted (s : State) : (resetBody s).halted = false := by
  simp [State.halted, resetBody, State.resetWith]

/-- After reset `Choose()` is the deepest depth (rule R254). -/
theorem choose_resetBody (s : State) : choose (resetBody s) = s.cfg.ndepth - 1 :=
  choose_of_no_hold fun e _ => resetBody_holds s e

/-- Settles O52: the next state is `resetBody s`, whose elements are written out in `State.resetWith`. -/
theorem resetWritesEveryElement : Obligations.ResetWritesEveryElement := by
  intro s
  refine ⟨resetBody s, takeEvent_reset s, ?arbiter, ?ring, ?timerConfig, ?timerRun, ?drain, ?record,
    fun _ => choose_resetBody s, resetBody_irq s, resetBody_halted s⟩
  case arbiter => exact ⟨rfl, rfl, rfl⟩
  case ring => exact ⟨rfl, rfl, rfl, rfl, rfl, rfl⟩
  case timerConfig => exact ⟨rfl, rfl, rfl, rfl, rfl, rfl, rfl, rfl, rfl, rfl, rfl⟩
  case timerRun => exact ⟨rfl, rfl, rfl, rfl, rfl, rfl, rfl, rfl⟩
  case drain => exact ⟨rfl, rfl, rfl, rfl, rfl⟩
  case record => exact ⟨rfl, rfl, rfl, rfl, rfl⟩

end Sys2Proof.Proofs.Reset
end
